-- ==== Sys2Proof/Word.lean ====
section
/-! DEFINITION. The byte of the links (R185) and the 32-bit check value (R162). -/

namespace Sys2Proof

/-- One byte of a link (R185: 8 data bits). -/
abbrev Byte := BitVec 8

/-- A 32-bit check value (R162). -/
abbrev Check := BitVec 32

end Sys2Proof
end

