-- ==== Sys2Proof/Config.lean ====
section
/-! DEFINITION. What the spec leaves to the part and the model leaves free. -/

namespace Sys2Proof

/-- Whether the correction code of the stored checksum repairs one wrong bit of it. R163 makes the code of a stored
RECORD single-error-correcting; of the stored checksum's code R162 says only that the checksum may fail it. Free: no body,
so no proof rests on either answer (log 13, DESIGN CHOICE). -/
opaque Config.checksumOneBitRepaired : Bool

end Sys2Proof
end

