-- ==== Sys2Proof/Syntax.lean ====
section
/-! DEFINITION. The commands of the block: one constructor of `Instr` for each row of spec/opcode_table.json, and the
types of their operands. Values that travel on a link or stand in a sealed record are bit vectors of the width R195 to
R199 give them; named values are inductive types. -/

namespace Sys2Proof

/-- The two metering lines (00_scope.md, Names). -/
inductive LineId | a | b
deriving DecidableEq, Repr

/-- The three serial links (R185). -/
inductive Link | cab | reel | metrology
deriving DecidableEq, Repr

/-- The four products, 0 to 3. -/
inductive Product | p0 | p1 | p2 | p3
deriving DecidableEq, Repr

/-- What each line holds one of. -/
structure PerLine (α : Type) where
  a : α
  b : α
deriving DecidableEq, Repr

/-- What each product has one of. -/
structure PerProduct (α : Type) where
  p0 : α
  p1 : α
  p2 : α
  p3 : α
deriving DecidableEq, Repr

/-- GROSS or NET: the volume a product is billed on (R147). -/
inductive Basis | gross | net
deriving DecidableEq, Repr

/-- The preset kind of an order or a test run (R96). -/
inductive PresetKind | volume | fill
deriving DecidableEq, Repr

/-- The contents of a LINE record (R147). -/
structure LineRec where
  lowMax      : BitVec 16
  highMin     : BitVec 16
  tolerance   : BitVec 8
  creepLimit  : BitVec 8
  probeOffset : BitVec 16   -- two's complement
deriving DecidableEq, Repr

/-- One band's base increment B and trim T (R2, R147). -/
structure Factor where
  b : BitVec 16
  t : BitVec 8
deriving DecidableEq, Repr

/-- The contents of a METER_FACTOR record (R147). -/
structure MeterRec where
  low  : Factor
  main : Factor
  high : Factor
deriving DecidableEq, Repr

/-- The contents of a PRODUCT record (R147). -/
structure ProductRec where
  alpha    : BitVec 16
  fallback : BitVec 16   -- two's complement
  basis    : Basis
deriving DecidableEq, Repr

/-- The 14 calibration records by what they belong to (R147). -/
inductive RecordId
  | line (l : LineId)
  | meter (l : LineId) (p : Product)
  | product (p : Product)
deriving DecidableEq, Repr

/-- The contents of a record together with the record they belong to. -/
inductive CalRecord
  | line (l : LineId) (c : LineRec)
  | meter (l : LineId) (p : Product) (c : MeterRec)
  | product (p : Product) (c : ProductRec)
deriving DecidableEq, Repr

/-- The record a content belongs to. -/
def CalRecord.id : CalRecord → RecordId
  | .line l _ => .line l
  | .meter l p _ => .meter l p
  | .product p _ => .product p

/-- A price plan number (R112). -/
abbrev PlanNo := Fin 8

/-- An order slot number (R95). -/
abbrev SlotNo := Fin 24

/-- A tier of a price plan; a bound of `none` is OPEN (R113). -/
structure Tier where
  bound  : Option (BitVec 24)
  price  : BitVec 24
  charge : BitVec 24
deriving DecidableEq, Repr

/-- A latched price plan: its number and its tiers (R117). -/
structure PlanCopy where
  number : PlanNo
  tiers  : List Tier
deriving DecidableEq, Repr

/-- The eight fields of an order that the cab supplies (R96). -/
structure OrderCopy where
  orderId : BitVec 32
  account : List Byte
  site    : BitVec 24
  product : Product
  kind    : PresetKind
  amount  : BitVec 32        -- 0 when absent (R196)
  plan    : Option PlanNo    -- none is NONE
  taxRate : BitVec 16
deriving DecidableEq, Repr

/-- A product's operational settings (R148, R149). -/
structure Settings where
  name     : List Byte
  slowDown : BitVec 24
  noFlow   : BitVec 8
deriving DecidableEq, Repr

/-- The latched copies of a delivery (R42, R48). -/
structure Latched where
  order    : Option OrderCopy
  product  : ProductRec
  meter    : MeterRec
  line     : LineRec
  settings : Settings
  plan     : Option PlanCopy
deriving DecidableEq, Repr

/-- What damage to the nonvolatile calibration leaves stored (R163): a record's validity and contents, or the stored
checksum. -/
inductive StoredDamage
  | record (valid : Bool) (r : CalRecord)
  | checksum (v : Check)
deriving DecidableEq, Repr

/-- The commands, in the order of spec/opcode_table.json. A request carries the link its frame came on and the body of
the frame, byte for byte (R189, R195 to R199). -/
inductive Instr
  | loadOrder (link : Link) (body : List Byte)
  | withdrawOrder (link : Link) (body : List Byte)
  | readOrders (link : Link) (body : List Byte)
  | writePlan (link : Link) (body : List Byte)
  | readPlan (link : Link) (body : List Byte)
  | writeProductSettings (link : Link) (body : List Byte)
  | setClock (link : Link) (body : List Byte)
  | readTicket (link : Link) (body : List Byte)
  | ackTickets (link : Link) (body : List Byte)
  | stopLine (link : Link) (body : List Byte)
  | readStatus (link : Link) (body : List Byte)
  | readFaultLog (link : Link) (body : List Byte)
  | readTotals (link : Link) (body : List Byte)
  | readAudit (link : Link) (body : List Byte)
  | searchOrder (link : Link) (body : List Byte)
  | arm (link : Link) (body : List Byte)
  | start (link : Link) (body : List Byte)
  | pause (link : Link) (body : List Byte)
  | resume (link : Link) (body : List Byte)
  | add (link : Link) (body : List Byte)
  | endDelivery (link : Link) (body : List Byte)
  | disarm (link : Link) (body : List Byte)
  | readLine (link : Link) (body : List Byte)
  | readRecord (link : Link) (body : List Byte)
  | writeRecord (link : Link) (body : List Byte)
  | armTest (link : Link) (body : List Byte)
  | clearFaultLog (link : Link) (body : List Byte)
  | readChecksum (link : Link) (body : List Byte)
  | unknownRequest (link : Link) (kind : Byte) (body : List Byte)
  | frameDiscarded (link : Link)
  | lineError (link : Link)
  | receiveGapTimeout (link : Link)
  | frameTransmitted (link : Link)
  | pickup1Pulse (l : LineId)
  | pickup2Pulse (l : LineId)
  | airAsserted (l : LineId)
  | airReleased (l : LineId)
  | estopAsserted
  | estopReleased
  | pumpFaultAsserted
  | pumpFaultReleased
  | inspectionSwitchOpened
  | inspectionSwitchClosed
  | powerFailWarning
  | resetAsserted
  | powerFailWarningCleared
  | resetReleased
  | restartSaveWritten
  | startUpSequence
  | startUpFinish
  | flowWindowExpiry (l : LineId) (raw : BitVec 16)
  | quietTimerExpiry (l : LineId) (raw : BitVec 16)
  | capTimerExpiry (l : LineId) (raw : BitVec 16)
  | sweepTimerExpiry
  | clockSecond
  | journalAppendCompletion
  | calibrationWriteCompletion
  | testRecordCompletion
  | restartUpdateCompletion
  | faultLogWriteCompletion
  | shadowUpset (valid : Bool) (r : CalRecord)
  | latchedCopyDisturbed (l : LineId) (copies : Latched)
  | storedTicketDamage (place : Fin 256) (record : List Byte)
  | linkByteReceived (link : Link) (byte : Byte)
  | storedCalibrationDamage (d : StoredDamage)
deriving DecidableEq, Repr

end Sys2Proof
end

