-- ==== Sys2Proof/Machine/Bytes.lean ====
section
/-! DEFINITION. Bytes of the links and of check values: byte order and signs (R195), the presence bytes of a body (R199),
CRC-32 (R162) and CRC-16 (R186). -/

namespace Sys2Proof.Machine

/-- A number as `n` bytes, most significant first (R195). -/
def beBytes : Nat → Nat → List Byte
  | 0, _ => []
  | n + 1, v => BitVec.ofNat 8 (v / 256 ^ n) :: beBytes n v

/-- A signed number as `n` bytes in two's complement (R195). -/
def signedBytes (n : Nat) (v : Int) : List Byte :=
  beBytes n (v % (256 ^ n : Nat)).toNat

/-- The number that bytes spell, most significant first (R195). -/
def beNat (bs : List Byte) : Nat :=
  bs.foldl (fun acc b => acc * 256 + b.toNat) 0

/-- The number in a body at an offset, `n` bytes wide. -/
def field (body : List Byte) (off n : Nat) : Nat :=
  beNat ((body.drop off).take n)

/-- A list cut or filled with 0x00 to exactly `n` bytes (R195: a character field). -/
def padTo (n : Nat) (bs : List Byte) : List Byte :=
  (bs ++ List.replicate n 0).take n

/-- A yes-or-no field (R199): 0x01 for set or yes, 0x00 otherwise. -/
def flagByte (b : Bool) : List Byte := [if b then 1 else 0]

/-- A character field as received (R195): the characters before the first 0x00, when everything after it is 0x00 and each
character code is 32..126. -/
def parseChars (bs : List Byte) : Option (List Byte) :=
  let chars := bs.takeWhile (· ≠ 0)
  let rest := bs.dropWhile (· ≠ 0)
  if rest.all (· = 0) && chars.all (fun c => 32 ≤ c.toNat && c.toNat ≤ 126) then some chars else none

/-- A field of a body laid out under R199: always there, or with a presence bit. -/
inductive Item
  | fixed (bs : List Byte)
  | opt (width : Nat) (v : Option (List Byte))
deriving DecidableEq, Repr

/-- The bytes of a field; an absent one is sent as bytes of 0x00 (R195). -/
def Item.bytes : Item → List Byte
  | .fixed bs => bs
  | .opt _ (some bs) => bs
  | .opt w none => List.replicate w 0

/-- The presence bits of the fields that have one, in field order (R199). -/
def presenceBits : List Item → List Bool
  | [] => []
  | .fixed _ :: is => presenceBits is
  | .opt _ v :: is => v.isSome :: presenceBits is

/-- Bits packed into bytes, bit 0 first (R199): `pos` bits with value `acc` are already in the byte being filled. -/
def packBits : List Bool → Nat → Nat → List Byte
  | [], 0, _ => []
  | [], _ + 1, acc => [BitVec.ofNat 8 acc]
  | b :: bs, pos, acc =>
    let acc' := acc + (if b then 2 ^ pos else 0)
    if pos = 7 then BitVec.ofNat 8 acc' :: packBits bs 0 0 else packBits bs (pos + 1) acc'

/-- A body, a reply's data or a list item laid out from its fields: the presence bytes, then the fields in order (R199). -/
def layOut (items : List Item) : List Byte :=
  packBits (presenceBits items) 0 0 ++ (items.map Item.bytes).flatten

/-- One bit of the CRC-32 of R162: polynomial 0x04C11DB7, most significant bit first. -/
def crc32Bit (c : Check) : Check :=
  if c.msb then (c <<< 1) ^^^ 0x04C11DB7#32 else c <<< 1

/-- One byte of the CRC-32 of R162. -/
def crc32Byte (c : Check) (b : Byte) : Check :=
  (List.range 8).foldl (fun acc _ => crc32Bit acc) (c ^^^ (b.zeroExtend 32 <<< 24))

/-- The check value of R162: initial value 0xFFFFFFFF, no reflection, the final value inverted. -/
def crc32 (bs : List Byte) : Check := ~~~ (bs.foldl crc32Byte 0xFFFFFFFF#32)

/-- One bit of the CRC-16 of R186: polynomial 0x1021, most significant bit first. -/
def crc16Bit (c : BitVec 16) : BitVec 16 :=
  if c.msb then (c <<< 1) ^^^ 0x1021#16 else c <<< 1

/-- One byte of the CRC-16 of R186. -/
def crc16Byte (c : BitVec 16) (b : Byte) : BitVec 16 :=
  (List.range 8).foldl (fun acc _ => crc16Bit acc) (c ^^^ (b.zeroExtend 16 <<< 8))

/-- The check of a frame (R186): initial value 0xFFFF, no reflection and no final inversion. -/
def crc16 (bs : List Byte) : BitVec 16 := bs.foldl crc16Byte 0xFFFF#16

/-- A check value as four bytes, most significant first. -/
def checkBytes (c : Check) : List Byte := beBytes 4 c.toNat

/-- The length, kind and body of a frame: what its check covers (R186). -/
def frameCovered (kind : Byte) (body : List Byte) : List Byte :=
  BitVec.ofNat 8 (body.length + 1) :: kind :: body

/-- A frame as it stands on the wire (R186, R195). -/
def frameBytes (kind : Byte) (body : List Byte) : List Byte :=
  0xC3 :: (frameCovered kind body ++ beBytes 2 (crc16 (frameCovered kind body)).toNat)

/-- How many bits two bytes differ in. -/
def byteDistance (x y : Byte) : Nat :=
  (List.range 8).foldl (fun n i => n + (if (x ^^^ y).getLsbD i then 1 else 0)) 0

/-- How many bits two byte strings of one length differ in. -/
def bitDistance : List Byte → List Byte → Nat
  | x :: xs, y :: ys => byteDistance x y + bitDistance xs ys
  | _, _ => 0

end Sys2Proof.Machine
end

