-- ==== Sys2Proof/Machine/Records.lean ====
section
/-! DEFINITION. Selecting what belongs to a line, a product or a record; the calibration records as bytes, their record
check (R162) and their ranges (R147); the constants of the units (00_scope.md). -/

namespace Sys2Proof

/-- The part that belongs to a line. -/
def PerLine.get {α : Type} (x : PerLine α) : LineId → α
  | .a => x.a
  | .b => x.b

/-- The same pair with one line's part replaced. -/
def PerLine.set {α : Type} (x : PerLine α) (l : LineId) (v : α) : PerLine α :=
  match l with
  | .a => { x with a := v }
  | .b => { x with b := v }

/-- The other line. -/
def LineId.other : LineId → LineId
  | .a => .b
  | .b => .a

/-- The part that belongs to a product. -/
def PerProduct.get {α : Type} (x : PerProduct α) : Product → α
  | .p0 => x.p0
  | .p1 => x.p1
  | .p2 => x.p2
  | .p3 => x.p3

/-- The same four with one product's part replaced. -/
def PerProduct.set {α : Type} (x : PerProduct α) (p : Product) (v : α) : PerProduct α :=
  match p with
  | .p0 => { x with p0 := v }
  | .p1 => { x with p1 := v }
  | .p2 => { x with p2 := v }
  | .p3 => { x with p3 := v }

namespace Machine

/-- A line as its number: 0 for A and 1 for B (R195). -/
def lineNo : LineId → Nat
  | .a => 0
  | .b => 1

/-- The line a byte names (R195). -/
def lineOf? : Nat → Option LineId
  | 0 => some .a
  | 1 => some .b
  | _ => none

/-- A product as its number. -/
def productNo : Product → Nat
  | .p0 => 0
  | .p1 => 1
  | .p2 => 2
  | .p3 => 3

/-- The product a number names. -/
def productOf? : Nat → Option Product
  | 0 => some .p0
  | 1 => some .p1
  | 2 => some .p2
  | 3 => some .p3
  | _ => none

/-- The capacity, 9,999,999 cL (00_scope.md, Units). -/
def capacity : Nat := 9999999

/-- Totalizers and unticketed volumes wrap at 10¹⁵ (R18, R20). -/
def totalizerWrap : Nat := 10 ^ 15

/-- G, Gp and Gs wrap at 10¹⁷ (R6). -/
def grossWrap : Nat := 10 ^ 17

/-- The largest 32-bit number. -/
def max32 : Nat := 4294967295

/-- A count that stops at a limit. -/
def bump (limit n : Nat) : Nat := if n < limit then n + 1 else limit

/-- The 14 record ids in order (R147). -/
def allRecords : List RecordId :=
  [.line .a, .line .b,
   .meter .a .p0, .meter .a .p1, .meter .a .p2, .meter .a .p3,
   .meter .b .p0, .meter .b .p1, .meter .b .p2, .meter .b .p3,
   .product .p0, .product .p1, .product .p2, .product .p3]

/-- A record's number, 0 to 13 (R147). -/
def recordNo : RecordId → Nat
  | .line l => lineNo l
  | .meter l p => 2 + 4 * lineNo l + productNo p
  | .product p => 10 + productNo p

/-- The record a number names. -/
def recordOf? (n : Nat) : Option RecordId :=
  match allRecords.drop n with
  | r :: _ => some r
  | [] => none

/-- One band's factor as bytes: B 2 bytes, T 1 byte (R199). -/
def factorBytes (f : Factor) : List Byte := beBytes 2 f.b.toNat ++ beBytes 1 f.t.toNat

/-- A record's contents in the field order of R147, as they follow the record id in WRITE_RECORD (R199). -/
def contentBytes : CalRecord → List Byte
  | .line _ c =>
    beBytes 2 c.lowMax.toNat ++ beBytes 2 c.highMin.toNat ++ beBytes 1 c.tolerance.toNat
      ++ beBytes 1 c.creepLimit.toNat ++ beBytes 2 c.probeOffset.toNat
  | .meter _ _ c => factorBytes c.low ++ factorBytes c.main ++ factorBytes c.high
  | .product _ c =>
    beBytes 2 c.alpha.toNat ++ beBytes 2 c.fallback.toNat ++ (match c.basis with | .gross => [0] | .net => [1])

/-- How many bytes a record's contents take. -/
def contentLength : RecordId → Nat
  | .line _ => 8
  | .meter _ _ => 9
  | .product _ => 5

/-- What a record check covers (R162): the validity byte and, when VALID, the contents. -/
def recordBytes (valid : Bool) (r : CalRecord) : List Byte :=
  if valid then 1 :: contentBytes r else [0]

/-- The record check of R162. -/
def recordCheck (valid : Bool) (r : CalRecord) : Check := crc32 (recordBytes valid r)

/-- All the stored bits of a record: the validity bit and the content bits (R163). -/
def heldBytes (valid : Bool) (r : CalRecord) : List Byte := flagByte valid ++ contentBytes r

/-- B 100..65,535 and T 0..15 (R147). -/
def factorInRange (f : Factor) : Bool := 100 ≤ f.b.toNat && f.t.toNat ≤ 15

/-- Every field within its range in R147, and LOW_MAX below HIGH_MIN for a LINE record. -/
def recordInRange : CalRecord → Bool
  | .line _ c =>
    c.lowMax.toNat < c.highMin.toNat && c.tolerance.toNat ≤ 15 && 1 ≤ c.creepLimit.toNat
      && -200 ≤ c.probeOffset.toInt && c.probeOffset.toInt ≤ 200
  | .meter _ _ c => factorInRange c.low && factorInRange c.main && factorInRange c.high
  | .product _ c =>
    c.alpha.toNat ≤ 2000 && -4000 ≤ c.fallback.toInt && c.fallback.toInt ≤ 6000

/-- Contents of no meaning for an INVALID record, which "holds no contents" (R147). -/
def blankLine : LineRec := ⟨0, 0, 0, 0, 0⟩

/-- As `blankLine`, for a METER_FACTOR record. -/
def blankMeter : MeterRec := ⟨⟨0, 0⟩, ⟨0, 0⟩, ⟨0, 0⟩⟩

/-- As `blankLine`, for a PRODUCT record. -/
def blankProduct : ProductRec := ⟨0, 0, .gross⟩

/-- The operational settings after restart (R148): a name of no characters, 2,000 cL and 30. -/
def defaultSettings : Settings := ⟨[], 2000, 30⟩

/-- The calibration checksum (R162): over the 14 record checks in record-id order, four bytes each. -/
def checksumOver (checks : List Check) : Check := crc32 (checks.map checkBytes).flatten

end Machine
end Sys2Proof
end

