-- ==== Sys2Proof/Machine/State.lean ====
section
/-! DEFINITION. The whole state of the part as plain data, the reasons a step can stop, and the state after reset. -/

namespace Sys2Proof.Machine

/-- No rule of the spec stops the part, so no command faults. -/
inductive Fault
deriving DecidableEq, Repr

/-- Reasons for which a command has no meaning. -/
inductive Refusal
  /-- Raised by `exec` for a command that has no meaning yet; safe, since nothing can be proved of it. No arm uses it. -/
  | notModelled (mnemonic : String)
deriving DecidableEq, Repr

/-- The eight line states (R40), numbered as R198 codes them. -/
inductive LineState | unverified | idle | armed | flowing | paused | halted | settling | recording
deriving DecidableEq, Repr

/-- SALE or TEST (R42). -/
inductive Mode | sale | test
deriving DecidableEq, Repr

/-- The flow bands (R1). -/
inductive Band | low | main | high
deriving DecidableEq, Repr

/-- The valve stages (R75). -/
inductive ValveStage | closed | trickle | full
deriving DecidableEq, Repr

/-- The pause causes (R43). -/
inductive PauseCause | driver | noFlow | air | estop | pump
deriving DecidableEq, Repr

/-- The halt causes (R43). -/
inductive HaltCause | creep | pickupMismatch | latchIntegrity | calIntegrity
deriving DecidableEq, Repr

/-- The end causes (R43). -/
inductive EndCause | preset | capacity | driverEnd | cabStop | power | reset
deriving DecidableEq, Repr

/-- The gross accumulators and the flow tracking of a delivery record (R1). -/
structure Counts where
  framePos : Nat
  band     : Band
  nA       : Nat
  nB       : Nat
  strikes  : Nat
  zeroRun  : Nat
  creep    : Nat
  g        : Nat
  gp       : Nat
  gs       : Nat
deriving DecidableEq, Repr

/-- The temperature and correction items of a delivery record, less its flags (R24). -/
structure Correction where
  w         : Int
  lastValid : Option Int
  runAvg    : Option Int
  runVcf    : Nat
deriving DecidableEq, Repr

/-- The preset part of a delivery record (R75). -/
structure PresetPart where
  kind       : Option PresetKind
  amount     : Option Nat
  loadedTop  : Nat
  stagedTop  : Nat
  stop       : Nat
  slow       : Nat
  stagedStop : Nat
  stagedSlow : Nat
  stage      : ValveStage
deriving DecidableEq, Repr

/-- The seven flags of a delivery record (R43). -/
structure Flags where
  tempSubst        : Bool
  probeFault       : Bool
  clockUnset       : Bool
  capacity         : Bool
  settleCap        : Bool
  interrupted      : Bool
  inspectionOpened : Bool
deriving DecidableEq, Repr

/-- The calibration identity (R42): the audit event counter and the stored checksum at the arm. -/
structure Identity where
  counter  : Nat
  checksum : Check
deriving DecidableEq, Repr

/-- The final correction (R35): the average temperature as R38 reports it, the VCF, gross_cL, net_cL and, for a SALE, Q. -/
structure Final where
  average : Option Int
  vcf     : Nat
  gross   : Nat
  net     : Nat
  billed  : Option Nat
deriving DecidableEq, Repr

/-- A TEST_RUN audit entry (R71, R160). -/
structure TestRun where
  line        : LineId
  product     : Product
  g           : Nat
  gross       : Nat
  net         : Nat
  average     : Option Int
  vcf         : Nat
  openTot     : Nat
  closeTot    : Nat
  interrupted : Bool
  time        : Option Nat
deriving DecidableEq, Repr

/-- The delivery record (R42), with the results R35 and R172 place in it. A `mode` of none is the empty record. -/
structure Delivery where
  mode         : Option Mode
  slot         : Option SlotNo
  product      : Product
  latched      : Latched
  checkCode    : Check
  identity     : Identity
  armTime      : Option Nat
  endTime      : Option Nat
  openTot      : Nat
  closeTot     : Nat
  counts       : Counts
  corr         : Correction
  preset       : PresetPart
  pauseCause   : Option PauseCause
  haltCause    : Option HaltCause
  endCause     : Option EndCause
  flags        : Flags
  ticketNumber : Option Nat
  final        : Option Final
  ticket       : Option (List Byte)
  testRun      : Option TestRun
deriving DecidableEq, Repr

/-- A line's temperature unit (R23). -/
structure TempUnit where
  lastRaw       : Option Int
  lastCorrected : Option Int
  substituted   : Bool
  lastValid     : Option Int
deriving DecidableEq, Repr

/-- One line: its controller's state and record, its metering line, its temperature unit, its timers and its valve
outputs. -/
structure Line where
  state         : LineState
  delivery      : Delivery
  totalizer     : Nat
  unticketed    : Nat
  idleProduct   : Product
  stayOpen      : Bool
  stayLogged    : Bool
  temp          : TempUnit
  windowRunning : Bool
  quietRunning  : Bool
  capRunning    : Bool
  trickleOut    : Bool
  mainOut       : Bool
deriving DecidableEq, Repr

/-- An order in a slot (R96). -/
structure Order where
  copy    : OrderCopy
  arrival : Option Nat
  seq     : Nat
deriving DecidableEq, Repr

/-- An order slot (R95). -/
inductive Slot
  | free
  | waiting (o : Order)
  | bound (l : LineId) (o : Order)
deriving DecidableEq, Repr

/-- The order table (R95). -/
structure OrderTable where
  slots   : Vector Slot 24
  counter : Nat
deriving DecidableEq, Repr

/-- The journal header (R127). -/
structure JournalHeader where
  oldestPlace  : Nat
  count        : Nat
  oldestNumber : Nat
  transferred  : Nat
deriving DecidableEq, Repr

/-- The journal's copies in use and its volatile items (R127). Bit `n` of `marks` is the damaged mark of place `n`. -/
structure Journal where
  header          : JournalHeader
  marks           : BitVec 256
  nextNumber      : Nat
  reservations    : Nat
  pendingRecovery : Nat
deriving DecidableEq, Repr

/-- The fault codes, in the order of the table of R200. -/
inductive FaultCode
  | unticketedFlow | pickupMismatch | creep | latchIntegrity | calIntegrity | calCorrected | calUncorrectable
  | journalDamaged | probeFault | settleCap | estop | pumpFault | powerInterrupted | resetInterrupted
deriving DecidableEq, Repr

/-- A fault-log entry (R200). -/
structure FaultEntry where
  time   : Option Nat
  code   : FaultCode
  line   : Option LineId
  detail : BitVec 32
deriving DecidableEq, Repr

/-- A ring entry with its stored mark (R200). `carried` is the model's own note of R202's "each entry the unit carried": the
entry stood in the ring when the fault-log write that is in flight went in flight. -/
structure RingEntry where
  entry   : FaultEntry
  stored  : Bool
  carried : Bool
deriving DecidableEq, Repr

/-- Where an accepted write stands (R148, R200). -/
inductive WriteStatus | queued | inFlight
deriving DecidableEq, Repr

/-- The fault log's volatile side (R200). -/
structure FaultLog where
  ring        : List RingEntry
  overflow    : List FaultEntry
  lost        : Nat
  outstanding : Option WriteStatus
  wanted      : Bool
deriving DecidableEq, Repr

/-- An audit entry (R159, R160). -/
inductive AuditEntry
  | calChange (counter : Nat) (time : Option Nat) (old : Option CalRecord) (new : CalRecord)
  | testRun (r : TestRun)
deriving DecidableEq, Repr

/-- The five kinds of write unit (R140). A journal append or test record of a line that is `recovery` was handed over by
the start-up sequence. A restart update carries the damaged marks found at start-up. -/
inductive WriteUnit
  | journalAppend (l : LineId) (recovery : Bool) (number nextNumber : Nat) (ticket : List Byte)
  | calibration (r : CalRecord) (check checksum : Check) (counter : Nat) (entry : AuditEntry)
  | testRecord (l : LineId) (recovery : Bool) (run : TestRun)
  | restartUpdate (interruptions : Nat) (marks : BitVec 256)
  | faultLog
deriving DecidableEq, Repr

/-- The unit in flight, with the journal header, the damaged marks and the fault ring as they stood when it went in
flight (R140, R202). -/
structure InFlight where
  unit   : WriteUnit
  header : JournalHeader
  marks  : BitVec 256
  ring   : List FaultEntry
deriving DecidableEq, Repr

/-- The engine's states (R137). -/
inductive EngineState | idle | writing | saving | stopped
deriving DecidableEq, Repr

/-- The write engine (R137). -/
structure Engine where
  state    : EngineState
  inFlight : Option InFlight
  queue    : List WriteUnit
deriving DecidableEq, Repr

/-- A record as held: its validity and its content bits (R147, R163). -/
structure Held (α : Type) where
  valid    : Bool
  contents : α
deriving DecidableEq, Repr

/-- The 14 calibration records as held. -/
structure RecordSet where
  line    : PerLine (Held LineRec)
  meter   : PerLine (PerProduct (Held MeterRec))
  product : PerProduct (Held ProductRec)
deriving DecidableEq, Repr

/-- One check value for each record. -/
structure RecordChecks where
  line    : PerLine Check
  meter   : PerLine (PerProduct Check)
  product : PerProduct Check
deriving DecidableEq, Repr

/-- The calibration unit's volatile items (R148). -/
structure Calibration where
  shadows      : RecordSet
  refs         : RecordChecks
  consistent   : Bool
  pendingWrite : Option (RecordId × WriteStatus)
  lastSweep    : Option Bool
  sweepRunning : Bool
  settings     : PerProduct Settings
deriving DecidableEq, Repr

/-- POWER or RESET (R171). -/
inductive RestartCause | power | reset
deriving DecidableEq, Repr

/-- A line snapshot (R172). -/
structure Snapshot where
  state      : LineState
  delivery   : Delivery
  totalizer  : Nat
  unticketed : Nat
  written    : Bool
deriving DecidableEq, Repr

/-- The nonvolatile store: calibration (R148), journal (R127), restart items (R171) and fault ring (R200). `sealed` and
`checksumSealed` are what the correction codes were formed over (R163). -/
structure Store where
  records        : RecordSet
  sealed         : RecordSet
  checksum       : Check
  checksumSealed : Check
  eventCounter   : Nat
  auditOldest    : Nat
  audit          : List AuditEntry
  places         : Vector (Option (List Byte)) 256
  header         : JournalHeader
  marks          : BitVec 256
  nextNumber     : Nat
  snapshots      : PerLine Snapshot
  saveCause      : RestartCause
  interruptions  : Nat
  ring           : List FaultEntry
deriving DecidableEq, Repr

/-- The restart phases (R171). -/
inductive Phase | running | saving | stopped | starting
deriving DecidableEq, Repr

/-- The restart and clock unit's volatile items (R171). `held` are the held snapshots, which a warning taken in RUNNING
fills from the lines; `cause` is the cause of the restart in progress or last done. -/
structure Restart where
  phase         : Phase
  held          : PerLine Snapshot
  cause         : RestartCause
  interruptions : Nat
  time          : Nat
  clockValid    : Bool
  tickets       : Nat
  testRuns      : Nat
deriving DecidableEq, Repr

/-- The request kinds (R188). -/
inductive RequestKind
  | loadOrder | withdrawOrder | readOrders | writePlan | readPlan | writeProductSettings | setClock | readTicket
  | ackTickets | stopLine | readStatus | readFaultLog | readTotals | readAudit | searchOrder | arm | start | pause
  | resume | add | endDelivery | disarm | readLine | readRecord | writeRecord | armTest | clearFaultLog | readChecksum
deriving DecidableEq, Repr

/-- The refusal codes (R190). -/
inductive RefusalCode
  | outOfRange | linkBusy | notPermitted | unknownRequest | lineBusy | unverified | inspectionOpen | inspectionClosed
  | estop | pumpFault | air | orderEmpty | orderBound | productUnverified | calBusy | planEmpty | journalFull | notPreset
  | duplicateOrder | tableFull | badPlan | noSuchTicket | ackBeyond | inUse | counterExhausted
deriving DecidableEq, Repr

/-- The notices (R193). -/
inductive NoticeKind | lineState | runningTotal | ticketReady | startUp | writeDone | testResult | faultRaised
deriving DecidableEq, Repr

/-- What a waiting frame is (R192): the reply to the pending request, a REFUSED reply of the link front's own judgement
(R189), or a notice. -/
inductive FrameTag
  | reply
  | refusal (c : RefusalCode)
  | notice (k : NoticeKind)
deriving DecidableEq, Repr

/-- A frame to transmit (R186). -/
structure TxFrame where
  tag  : FrameTag
  kind : Byte
  body : List Byte
deriving DecidableEq, Repr

/-- The receive states with the partial frame (R187). `check` holds the first check byte once it is taken. -/
inductive Receiver
  | hunt
  | length
  | kind (len : Nat)
  | body (len : Nat) (kind : Byte) (got : List Byte)
  | check (kind : Byte) (body : List Byte) (first : Option Byte)
deriving DecidableEq, Repr

/-- A link front (R185 to R194). -/
structure LinkFront where
  rx      : Receiver
  request : Option (RequestKind × List Byte)
  queue   : List TxFrame
  sending : Option TxFrame
  lost    : Nat
deriving DecidableEq, Repr

/-- What each link has one of. -/
structure PerLink (α : Type) where
  cab       : α
  reel      : α
  metrology : α
deriving DecidableEq, Repr

/-- The discrete inputs as they stand (00_scope.md, External connections). -/
structure Inputs where
  air            : PerLine Bool
  estop          : Bool
  pumpFault      : Bool
  inspectionOpen : Bool
  powerFail      : Bool
  reset          : Bool
deriving DecidableEq, Repr

/-- The whole part. -/
structure State where
  pending     : List Instr
  lines       : PerLine Line
  pump        : Bool
  dlvFault    : Bool
  estopHold   : Bool
  restartHold : Bool
  inputs      : Inputs
  orders      : OrderTable
  plans       : Vector (List Tier) 8
  journal     : Journal
  engine      : Engine
  cal         : Calibration
  restart     : Restart
  faultLog    : FaultLog
  links       : PerLink LinkFront
  store       : Store
deriving DecidableEq, Repr

/-- Latched copies of no meaning, in a record that holds none (R42, log 30). -/
def blankLatched : Latched := ⟨none, blankProduct, blankMeter, blankLine, defaultSettings, none⟩

/-- The delivery record after restart (R1, R39, R42, R75). -/
def emptyDelivery : Delivery where
  mode := none
  slot := none
  product := .p0
  latched := blankLatched
  checkCode := 0
  identity := ⟨0, 0⟩
  armTime := none
  endTime := none
  openTot := 0
  closeTot := 0
  counts := ⟨0, .main, 0, 0, 0, 0, 0, 0, 0, 0⟩
  corr := ⟨0, none, none, 1000000⟩
  preset := ⟨none, none, 0, 0, 0, 0, 0, 0, .closed⟩
  pauseCause := none
  haltCause := none
  endCause := none
  flags := ⟨false, false, false, false, false, false, false⟩
  ticketNumber := none
  final := none
  ticket := none
  testRun := none

/-- A line as the start-up sequence leaves it (R1, R23, R75), in the state and with the counts given. -/
def freshLine (st : LineState) (totalizer unticketed : Nat) : Line where
  state := st
  delivery := emptyDelivery
  totalizer := totalizer
  unticketed := unticketed
  idleProduct := .p0
  stayOpen := true
  stayLogged := false
  temp := ⟨none, none, false, none⟩
  windowRunning := false
  quietRunning := false
  capRunning := false
  trickleOut := false
  mainOut := false

/-- The same value for every line. -/
def bothLines {α : Type} (x : α) : PerLine α := ⟨x, x⟩

/-- The same value for every product. -/
def allProducts {α : Type} (x : α) : PerProduct α := ⟨x, x, x, x⟩

/-- The 14 records as they leave manufacture: all INVALID (R147). -/
def invalidRecords : RecordSet where
  line := bothLines ⟨false, blankLine⟩
  meter := bothLines (allProducts ⟨false, blankMeter⟩)
  product := allProducts ⟨false, blankProduct⟩

/-- The record check of an INVALID record (R162). -/
def invalidCheck : Check := crc32 [0]

/-- The reference checks of 14 INVALID records. -/
def invalidChecks : RecordChecks where
  line := bothLines invalidCheck
  meter := bothLines (allProducts invalidCheck)
  product := allProducts invalidCheck

/-- The calibration checksum over 14 INVALID records (R148). -/
def invalidChecksum : Check := checksumOver (List.replicate 14 invalidCheck)

/-- The snapshot of the manufactured save (R171): IDLE with no delivery, nothing counted. -/
def manufacturedSnapshot : Snapshot := ⟨.idle, emptyDelivery, 0, 0, false⟩

/-- The store as it leaves manufacture (R127, R148, R171, R200), with an interruption counter of `n`. -/
def manufacturedStore (n : Nat) : Store where
  records := invalidRecords
  sealed := invalidRecords
  checksum := invalidChecksum
  checksumSealed := invalidChecksum
  eventCounter := 0
  auditOldest := 1
  audit := []
  places := Vector.replicate 256 none
  header := ⟨0, 0, 1, 0⟩
  marks := 0
  nextNumber := 1
  snapshots := bothLines manufacturedSnapshot
  saveCause := .power
  interruptions := n
  ring := []

/-- The START_UP notice of the first start-up after manufacture (R171, R182, R199): cause POWER, interruption counter 1,
nothing recovered. -/
def firstStartUp : TxFrame := ⟨.notice .startUp, 0xA3, [0x35, 0, 1, 0, 0]⟩

/-- A link front right after start-up (R194): START_UP on the wire, nothing else. -/
def freshFront : LinkFront := ⟨.hunt, none, [], some firstStartUp, 0⟩

/-- The part right after reset: the end of the first start-up sequence after manufacture, every item at the value its
"After restart" column gives (log 1). Both lines are UNVERIFIED, since every LINE record is INVALID (R40, R147), and
DLV_FAULT is asserted (R204). -/
def State.reset : State where
  pending := []
  lines := bothLines (freshLine .unverified 0 0)
  pump := false
  dlvFault := true
  estopHold := false
  restartHold := false
  inputs := ⟨bothLines false, false, false, false, false, false⟩
  orders := ⟨Vector.replicate 24 .free, 0⟩
  plans := Vector.replicate 8 []
  journal := ⟨⟨0, 0, 1, 0⟩, 0, 1, 0, 0⟩
  engine := ⟨.idle, none, []⟩
  cal := ⟨invalidRecords, invalidChecks, true, none, none, true, allProducts defaultSettings⟩
  restart := ⟨.running, bothLines manufacturedSnapshot, .power, 1, 0, false, 0, 0⟩
  faultLog := ⟨[], [], 0, none, false⟩
  links := ⟨freshFront, freshFront, freshFront⟩
  store := manufacturedStore 1

/-- The part as it leaves manufacture, before its first start-up: STOPPED with the manufactured store (R171) and the
restart hold in force (R173); both lines are taken as UNVERIFIED and DLV_FAULT as asserted (log 40). `State.reset` is what
the start-up sequence makes of it (Tests: `test_first_start_up`). -/
def State.manufactured : State :=
  { State.reset with
    dlvFault := true
    restartHold := true
    engine := ⟨.stopped, none, []⟩
    cal := { State.reset.cal with sweepRunning := false }
    restart := ⟨.stopped, bothLines manufacturedSnapshot, .power, 0, 0, false, 0, 0⟩
    links := ⟨⟨.hunt, none, [], none, 0⟩, ⟨.hunt, none, [], none, 0⟩, ⟨.hunt, none, [], none, 0⟩⟩
    store := manufacturedStore 0 }

end Sys2Proof.Machine
end

