-- ==== Sys2Proof/Machine/Flags.lean ====
section
/-! DEFINITION. The codes of named values on the links (R190, R193, R196 to R199), the flags byte of a ticket (R197), the
request kinds and the links they may come on (R188), and the outputs that follow the state (R77, R78, R204). -/

namespace Sys2Proof.Machine

/-- GROSS 0x00, NET 0x01 (R197). -/
def basisCode : Basis → Byte
  | .gross => 0x00
  | .net => 0x01

/-- VOLUME 0x00, FILL 0x01 (R196). -/
def presetKindCode : PresetKind → Byte
  | .volume => 0x00
  | .fill => 0x01

/-- The line-state codes (R198). -/
def lineStateCode : LineState → Byte
  | .unverified => 0x00
  | .idle => 0x01
  | .armed => 0x02
  | .flowing => 0x03
  | .paused => 0x04
  | .halted => 0x05
  | .settling => 0x06
  | .recording => 0x07

/-- The mode codes (R198): 0x00 for no delivery. -/
def modeCode : Option Mode → Byte
  | none => 0x00
  | some .sale => 0x01
  | some .test => 0x02

/-- The pause causes of R198; 0x00 when absent. -/
def pauseCode : Option PauseCause → Byte
  | none => 0x00
  | some .driver => 0x11
  | some .noFlow => 0x12
  | some .air => 0x13
  | some .estop => 0x14
  | some .pump => 0x15

/-- The halt causes of R198; 0x00 when absent. -/
def haltCode : Option HaltCause → Byte
  | none => 0x00
  | some .creep => 0x21
  | some .pickupMismatch => 0x22
  | some .latchIntegrity => 0x23
  | some .calIntegrity => 0x24

/-- The end causes of R198; 0x00 when absent. -/
def endCode : Option EndCause → Byte
  | none => 0x00
  | some .preset => 0x31
  | some .capacity => 0x32
  | some .driverEnd => 0x33
  | some .cabStop => 0x34
  | some .power => 0x35
  | some .reset => 0x36

/-- NOTHING_DELIVERED (R198). -/
def nothingDeliveredCode : Byte := 0x40

/-- POWER and RESET as R198 codes them. -/
def restartCauseCode : RestartCause → Byte
  | .power => 0x35
  | .reset => 0x36

/-- The end cause a recovery sets (R178). -/
def restartEndCause : RestartCause → EndCause
  | .power => .power
  | .reset => .reset

/-- The bands in the order of R1 (R199). -/
def bandCode : Band → Byte
  | .low => 0x00
  | .main => 0x01
  | .high => 0x02

/-- The valve stages in the order of R75 (R199). -/
def stageCode : ValveStage → Byte
  | .closed => 0x00
  | .trickle => 0x01
  | .full => 0x02

/-- The fault codes (R199): those whose names R198 codes as causes carry that code, and the others are numbered in the order
of R200 (log 17). -/
def faultCodeByte : FaultCode → Byte
  | .unticketedFlow => 0
  | .pickupMismatch => 0x22
  | .creep => 0x21
  | .latchIntegrity => 0x23
  | .calIntegrity => 0x24
  | .calCorrected => 5
  | .calUncorrectable => 6
  | .journalDamaged => 7
  | .probeFault => 8
  | .settleCap => 9
  | .estop => 0x14
  | .pumpFault => 11
  | .powerInterrupted => 12
  | .resetInterrupted => 13

/-- An order slot number, or 0xFF when absent (R198). -/
def slotByte : Option SlotNo → Byte
  | some n => BitVec.ofNat 8 n.val
  | none => 0xFF

/-- The flags byte (R197): bit 0 TEMP_SUBST to bit 6 INSPECTION_OPENED. -/
def flagsByte (f : Flags) : Byte :=
  BitVec.ofNat 8 (f.tempSubst.toNat + 2 * f.probeFault.toNat + 4 * f.clockUnset.toNat + 8 * f.capacity.toNat
    + 16 * f.settleCap.toNat + 32 * f.interrupted.toNat + 64 * f.inspectionOpened.toNat)

/-- The kind byte of an ACCEPTED reply (R190). -/
def acceptedKind : Byte := 0x80

/-- The kind byte of a REFUSED reply (R190). -/
def refusedKind : Byte := 0x81

/-- The refusal codes (R190). -/
def refusalByte : RefusalCode → Byte
  | .outOfRange => 0x01
  | .linkBusy => 0x02
  | .notPermitted => 0x03
  | .unknownRequest => 0x04
  | .lineBusy => 0x05
  | .unverified => 0x06
  | .inspectionOpen => 0x07
  | .inspectionClosed => 0x08
  | .estop => 0x09
  | .pumpFault => 0x0A
  | .air => 0x0B
  | .orderEmpty => 0x0C
  | .orderBound => 0x0D
  | .productUnverified => 0x0E
  | .calBusy => 0x0F
  | .planEmpty => 0x10
  | .journalFull => 0x11
  | .notPreset => 0x12
  | .duplicateOrder => 0x13
  | .tableFull => 0x14
  | .badPlan => 0x15
  | .noSuchTicket => 0x16
  | .ackBeyond => 0x17
  | .inUse => 0x18
  | .counterExhausted => 0x19

/-- The notice kinds (R193). -/
def noticeByte : NoticeKind → Byte
  | .lineState => 0xA0
  | .runningTotal => 0xA1
  | .ticketReady => 0xA2
  | .startUp => 0xA3
  | .writeDone => 0xA4
  | .testResult => 0xA5
  | .faultRaised => 0xA6

/-- The request kind bytes (R188). -/
def requestByte : RequestKind → Byte
  | .loadOrder => 0x01
  | .withdrawOrder => 0x02
  | .readOrders => 0x03
  | .writePlan => 0x04
  | .readPlan => 0x05
  | .writeProductSettings => 0x06
  | .setClock => 0x07
  | .readTicket => 0x08
  | .ackTickets => 0x09
  | .stopLine => 0x0A
  | .readStatus => 0x0B
  | .readFaultLog => 0x0C
  | .readTotals => 0x0D
  | .readAudit => 0x0E
  | .searchOrder => 0x10
  | .arm => 0x11
  | .start => 0x12
  | .pause => 0x13
  | .resume => 0x14
  | .add => 0x15
  | .endDelivery => 0x16
  | .disarm => 0x17
  | .readLine => 0x18
  | .readRecord => 0x20
  | .writeRecord => 0x21
  | .armTest => 0x22
  | .clearFaultLog => 0x23
  | .readChecksum => 0x24

/-- Every request kind (R188). -/
def allRequests : List RequestKind :=
  [.loadOrder, .withdrawOrder, .readOrders, .writePlan, .readPlan, .writeProductSettings, .setClock, .readTicket,
   .ackTickets, .stopLine, .readStatus, .readFaultLog, .readTotals, .readAudit, .searchOrder, .arm, .start, .pause,
   .resume, .add, .endDelivery, .disarm, .readLine, .readRecord, .writeRecord, .armTest, .clearFaultLog, .readChecksum]

/-- The request kind a kind byte names (R188, R189). -/
def requestOf? (kind : Byte) : Option RequestKind :=
  allRequests.find? (fun k => requestByte k == kind)

/-- Whether a request kind is marked for a link in the table of R188. -/
def permitted : RequestKind → Link → Bool
  | .loadOrder, .cab | .withdrawOrder, .cab | .readOrders, .cab | .writePlan, .cab | .readPlan, .cab
  | .writeProductSettings, .cab | .setClock, .cab | .readTicket, .cab | .ackTickets, .cab | .stopLine, .cab
  | .readStatus, .cab | .readFaultLog, .cab | .readTotals, .cab | .readAudit, .cab => true
  | .searchOrder, .reel | .arm, .reel | .start, .reel | .pause, .reel | .resume, .reel | .add, .reel
  | .endDelivery, .reel | .disarm, .reel | .readLine, .reel => true
  | .readFaultLog, .metrology | .readTotals, .metrology | .readAudit, .metrology | .readLine, .metrology
  | .readRecord, .metrology | .writeRecord, .metrology | .armTest, .metrology | .clearFaultLog, .metrology
  | .readChecksum, .metrology => true
  | _, _ => false

/-- ARMED through SETTLING: the line holds an open delivery (section 3.1). -/
def LineState.isOpen : LineState → Bool
  | .armed | .flowing | .paused | .halted | .settling => true
  | .unverified | .idle | .recording => false

/-- ARMED through RECORDING: the line holds a delivery. -/
def LineState.holds : LineState → Bool
  | .armed | .flowing | .paused | .halted | .settling | .recording => true
  | .unverified | .idle => false

/-- IDLE, UNVERIFIED or RECORDING: pulses count as unticketed volume (R18). -/
def LineState.isUnticketed : LineState → Bool
  | .unverified | .idle | .recording => true
  | .armed | .flowing | .paused | .halted | .settling => false

/-- The trickle output a stage gives when no hold applies (R77). -/
def ValveStage.trickleOn : ValveStage → Bool
  | .closed => false
  | .trickle | .full => true

/-- The main output a stage gives when no hold applies (R77). -/
def ValveStage.mainOn : ValveStage → Bool
  | .full => true
  | .closed | .trickle => false

/-- A hold of R77 is in force. -/
def State.held (s : State) : Bool := s.estopHold || s.restartHold

/-- A line with its valve outputs set from its stage and the holds (R77). -/
def Line.driven (hold : Bool) (ln : Line) : Line :=
  { ln with
    trickleOut := !hold && ln.delivery.preset.stage.trickleOn
    mainOut := !hold && ln.delivery.preset.stage.mainOn }

/-- The condition of R78 under which the pump output is on. -/
def State.pumpCondition (s : State) : Bool :=
  (s.lines.a.state == .flowing || s.lines.b.state == .flowing)
    && !s.inputs.estop && !s.inputs.pumpFault && !s.restartHold

/-- The condition of R204 under which DLV_FAULT is asserted. -/
def LineState.raisesDlvFault : LineState → Bool
  | .halted | .unverified => true
  | .idle | .armed | .flowing | .paused | .settling | .recording => false

/-- The outputs re-evaluated from the state they follow (R77, R78, R204). -/
def State.drive (s : State) : State :=
  { s with
    lines := ⟨s.lines.a.driven s.held, s.lines.b.driven s.held⟩
    pump := s.pumpCondition
    dlvFault := s.lines.a.state.raisesDlvFault || s.lines.b.state.raisesDlvFault }

end Sys2Proof.Machine
end

