-- ==== Sys2Proof/WellFormed.lean ====
section
/-! DEFINITION. Which commands the part can be given: a check for each operand that its type does not bound. A command that
fails a check still has a meaning; the check says that no event of the spec is that command. -/

namespace Sys2Proof.WellFormed

/-- A body holds 0..248 bytes (R186). -/
def body (bs : List Byte) : Bool := bs.length ≤ 248

/-- A kind that is no request kind (R189). -/
def unknownKind (kind : Byte) : Bool := (Machine.requestOf? kind).isNone

/-- A latched plan holds 1..8 tiers (R112, R117). -/
def planCopy (p : PlanCopy) : Bool := 1 ≤ p.tiers.length && p.tiers.length ≤ 8

/-- Latched copies whose lists are no longer than the fields they stand for: what a change of bits can leave (R48). -/
def latched (c : Latched) : Bool :=
  c.order.all (fun o => o.account.length ≤ 10) && c.settings.name.length ≤ 12 && c.plan.all planCopy

/-- A ticket record has 138 bytes (R197). -/
def ticketRecord (bs : List Byte) : Bool := bs.length == 138

/-- A command of the part. -/
def instr : Instr → Bool
  | .loadOrder _ b | .withdrawOrder _ b | .readOrders _ b | .writePlan _ b | .readPlan _ b | .writeProductSettings _ b
  | .setClock _ b | .readTicket _ b | .ackTickets _ b | .stopLine _ b | .readStatus _ b | .readFaultLog _ b
  | .readTotals _ b | .readAudit _ b | .searchOrder _ b | .arm _ b | .start _ b | .pause _ b | .resume _ b | .add _ b
  | .endDelivery _ b | .disarm _ b | .readLine _ b | .readRecord _ b | .writeRecord _ b | .armTest _ b
  | .clearFaultLog _ b | .readChecksum _ b => body b
  | .unknownRequest _ k b => unknownKind k && body b
  | .latchedCopyDisturbed _ c => latched c
  | .storedTicketDamage _ r => ticketRecord r
  | .frameDiscarded _ | .lineError _ | .receiveGapTimeout _ | .frameTransmitted _ | .pickup1Pulse _ | .pickup2Pulse _
  | .airAsserted _ | .airReleased _ | .estopAsserted | .estopReleased | .pumpFaultAsserted | .pumpFaultReleased
  | .inspectionSwitchOpened | .inspectionSwitchClosed | .powerFailWarning | .resetAsserted | .powerFailWarningCleared
  | .resetReleased | .restartSaveWritten | .startUpSequence | .startUpFinish | .flowWindowExpiry _ _
  | .quietTimerExpiry _ _ | .capTimerExpiry _ _ | .sweepTimerExpiry | .clockSecond | .journalAppendCompletion
  | .calibrationWriteCompletion | .testRecordCompletion | .restartUpdateCompletion | .faultLogWriteCompletion
  | .shadowUpset _ _ | .linkByteReceived _ _ | .storedCalibrationDamage _ => true

end Sys2Proof.WellFormed
end

