-- ==== Sys2Proof/Decode.lean ====
section
/-! DEFINITION. The command that a word of spec/opcode_table.json spells. The table gives its rows no bits, so no word
spells a command (log 34); a request's frame is read byte by byte by LINK_BYTE_RECEIVED (Machine/Links.lean). -/

namespace Sys2Proof

/-- The command that the `nbits` bits of `w` spell: none, since no row has bits. -/
def decodeTableWord (_nbits _w : Nat) : Option Instr := none

end Sys2Proof
end

