-- ==== Sys2Proof/Machine/Ops.lean ====
section
/-! DEFINITION. The named operations the commands share: reading and writing a line, a link front and the calibration
records; notices and the transmit queue (R191, R192); the write engine (R137 to R139); the fault log (R202); the order
table's and the journal's services. -/

namespace Sys2Proof.Machine

/-! ## Lines -/

/-- A line of the part. -/
def State.line (s : State) (l : LineId) : Line := s.lines.get l

/-- The part with one line replaced. -/
def State.setLine (s : State) (l : LineId) (ln : Line) : State := { s with lines := s.lines.set l ln }

/-- The part with one line's delivery record replaced. -/
def State.setDelivery (s : State) (l : LineId) (d : Delivery) : State :=
  s.setLine l { s.line l with delivery := d }

/-- Device time when a timestamp is taken now: absent when the clock is invalid, and absent outside phase RUNNING
(R175, R184). -/
def State.stamp (s : State) : Option Nat :=
  if s.restart.phase == .running && s.restart.clockValid then some s.restart.time else none

/-! ## Calibration records -/

/-- A record of a set, with its validity. -/
def RecordSet.get (r : RecordSet) : RecordId → Bool × CalRecord
  | .line l => ((r.line.get l).valid, .line l (r.line.get l).contents)
  | .meter l p => (((r.meter.get l).get p).valid, .meter l p ((r.meter.get l).get p).contents)
  | .product p => ((r.product.get p).valid, .product p (r.product.get p).contents)

/-- A set with the record that `c` belongs to replaced. -/
def RecordSet.put (r : RecordSet) (valid : Bool) : CalRecord → RecordSet
  | .line l c => { r with line := r.line.set l ⟨valid, c⟩ }
  | .meter l p c => { r with meter := r.meter.set l ((r.meter.get l).set p ⟨valid, c⟩) }
  | .product p c => { r with product := r.product.set p ⟨valid, c⟩ }

/-- The reference check of a record. -/
def RecordChecks.get (r : RecordChecks) : RecordId → Check
  | .line l => r.line.get l
  | .meter l p => (r.meter.get l).get p
  | .product p => r.product.get p

/-- The reference checks with one replaced. -/
def RecordChecks.put (r : RecordChecks) (v : Check) : RecordId → RecordChecks
  | .line l => { r with line := r.line.set l v }
  | .meter l p => { r with meter := r.meter.set l ((r.meter.get l).set p v) }
  | .product p => { r with product := r.product.set p v }

/-- An INVALID record's blank contents. -/
def blankRecord : RecordId → CalRecord
  | .line l => .line l blankLine
  | .meter l p => .meter l p blankMeter
  | .product p => .product p blankProduct

/-- The record check of a held record as it stands (R162). -/
def RecordSet.check (r : RecordSet) (i : RecordId) : Check := recordCheck (r.get i).1 (r.get i).2

/-- The line's LINE record is VALID and the checksum CONSISTENT: what lets a line be IDLE (R40, R155). -/
def State.lineSound (s : State) (l : LineId) : Bool := (s.cal.shadows.line.get l).valid && s.cal.consistent

/-! ## Notices and replies -/

/-- A notice for one link (R193). -/
structure Notice where
  link : Link
  kind : NoticeKind
  body : List Byte
deriving DecidableEq, Repr

/-- A command's work in progress: the part so far and the notices it has sent, in order. They join the transmit queues
when the command's reply, if any, has joined (R191). -/
structure Work where
  st    : State
  notes : List Notice
deriving DecidableEq, Repr

/-- A reply (R190): ACCEPTED with an indication byte and data, or REFUSED with a code. -/
inductive Reply
  | accepted (indication : Byte) (data : List Byte)
  | refused (c : RefusalCode)
deriving DecidableEq, Repr

/-- An ACCEPTED reply with no indication. -/
def Reply.ok (data : List Byte) : Reply := .accepted 0x00 data

/-- The indication ALREADY_ENDING (R190). -/
def alreadyEnding : Byte := 0x01

/-- The indication NONE (R190). -/
def noneIndication : Byte := 0x02

/-- The indication ENTRIES_LOST (R190). -/
def entriesLost : Byte := 0x03

/-- Work on the part that sends no notice. -/
def Work.mapSt (f : State → State) (w : Work) : Work := { w with st := f w.st }

/-- One notice sent on one link. -/
def Work.notify (link : Link) (kind : NoticeKind) (body : List Byte) (w : Work) : Work :=
  { w with notes := w.notes ++ [⟨link, kind, body⟩] }

/-- A line replaced. -/
def Work.setLine (l : LineId) (ln : Line) (w : Work) : Work := w.mapSt (fun s => s.setLine l ln)

/-- A delivery record changed. -/
def Work.mapDelivery (l : LineId) (f : Delivery → Delivery) (w : Work) : Work :=
  w.mapSt (fun s => s.setDelivery l (f (s.line l).delivery))

/-! ## Link fronts -/

/-- The part of a link. -/
def PerLink.get {α : Type} (x : PerLink α) : Link → α
  | .cab => x.cab
  | .reel => x.reel
  | .metrology => x.metrology

/-- The same three with one link's part replaced. -/
def PerLink.set {α : Type} (x : PerLink α) (l : Link) (v : α) : PerLink α :=
  match l with
  | .cab => { x with cab := v }
  | .reel => { x with reel := v }
  | .metrology => { x with metrology := v }

/-- A link front of the part. -/
def State.front (s : State) (l : Link) : LinkFront := s.links.get l

/-- The part with one link front replaced. -/
def State.setFront (s : State) (l : Link) (f : LinkFront) : State := { s with links := s.links.set l f }

/-- The three links. -/
def allLinks : List Link := [.cab, .reel, .metrology]

/-- A list without its first element that satisfies a test, when one does. -/
def removeFirst {α : Type} (p : α → Bool) : List α → Option (List α)
  | [] => none
  | x :: xs => if p x then some xs else (removeFirst p xs).map (x :: ·)

/-- A waiting notice of one kind. -/
def TxFrame.isNotice (k : NoticeKind) (f : TxFrame) : Bool := f.tag == .notice k

/-- A waiting notice that R192 may remove: any but START_UP. -/
def TxFrame.isRemovable (f : TxFrame) : Bool :=
  match f.tag with
  | .notice .startUp => false
  | .notice _ => true
  | .reply | .refusal _ => false

/-- A REFUSED reply of the link front's own judgement. -/
def TxFrame.isRefusal (f : TxFrame) : Bool :=
  match f.tag with
  | .refusal _ => true
  | .reply | .notice _ => false

/-- A full queue without the notice R192 removes: the oldest RUNNING_TOTAL, else the oldest FAULT_RAISED, else the oldest
notice other than START_UP. -/
def removeNotice (q : List TxFrame) : Option (List TxFrame) :=
  removeFirst (TxFrame.isNotice .runningTotal) q
    <|> removeFirst (TxFrame.isNotice .faultRaised) q
    <|> removeFirst TxFrame.isRemovable q

/-- A full queue with no notice to remove, making room for the reply to the pending request: without the oldest LINK_BUSY
reply (R192), or, where it holds none, without the oldest other REFUSED reply of the link front (log 15). -/
def removeRefusal (q : List TxFrame) : Option (List TxFrame) :=
  removeFirst (fun f => f.tag == .refusal .linkBusy) q <|> removeFirst TxFrame.isRefusal q

/-- When no frame is being transmitted the oldest waiting frame starts (R191). -/
def LinkFront.startNext (f : LinkFront) : LinkFront :=
  match f.sending, f.queue with
  | none, x :: q => { f with sending := some x, queue := q }
  | _, _ => f

/-- A frame joins the newest end of the queue, which may hold `room` waiting frames, or is placed as R192 gives for a full
queue. -/
def LinkFront.enqueue (room : Nat) (x : TxFrame) (f : LinkFront) : LinkFront :=
  if f.queue.length < room then { f with queue := f.queue ++ [x] }
  else
    match removeNotice f.queue with
    | some q => { f with queue := q ++ [x], lost := bump 255 f.lost }
    | none =>
      match x.tag with
      | .notice _ => { f with lost := bump 255 f.lost }
      | .refusal _ => f
      | .reply =>
        match removeRefusal f.queue with
        | some q => { f with queue := q ++ [x] }
        | none => f

/-- A frame handed to a link front (R191, R192, R194): in RUNNING the queue holds 8 and the transmitter runs, in STARTING
the queue holds 7 and nothing is transmitted, in SAVING and STOPPED the front takes nothing (log 29). -/
def LinkFront.place (ph : Phase) (x : TxFrame) (f : LinkFront) : LinkFront :=
  match ph with
  | .running => (f.enqueue 8 x).startNext
  | .starting => f.enqueue 7 x
  | .saving | .stopped => f

/-- A frame handed to the front of a link. -/
def State.send (s : State) (link : Link) (x : TxFrame) : State :=
  s.setFront link ((s.front link).place s.restart.phase x)

/-- Notices handed to their fronts in order. -/
def State.sendNotices (s : State) (ns : List Notice) : State :=
  ns.foldl (fun s n => s.send n.link ⟨.notice n.kind, noticeByte n.kind, n.body⟩) s

/-- The frame of a reply (R190). -/
def Reply.frame (kind : Byte) (tag : FrameTag) : Reply → TxFrame
  | .accepted ind data => ⟨tag, acceptedKind, kind :: ind :: data⟩
  | .refused c => ⟨tag, refusedKind, [kind, refusalByte c]⟩

/-- The end of a command: its notices join the queues and the outputs follow the state. -/
def Work.finish (w : Work) : Host.Outcome State Fault Refusal := .next (w.st.sendNotices w.notes).drive

/-- A command that is no request. -/
def event (f : Work → Work) (s : State) : Host.Outcome State Fault Refusal := (f ⟨s, []⟩).finish

/-- A REFUSED reply of the link front's own judgement, which makes nothing pending (R189). -/
def State.judge (s : State) (link : Link) (kind : Byte) (c : RefusalCode) : State :=
  s.send link (Reply.frame kind (.refusal c) (.refused c))

/-- The receiver of a link front back in HUNT (R187). -/
def State.toHunt (s : State) (link : Link) : State := s.setFront link { s.front link with rx := .hunt }

/-- A complete frame of a request kind whose check agrees (R187, R189): discarded outside phase RUNNING (R194), refused
LINK_BUSY while a request is pending, NOT_PERMITTED on a link not marked for it, and otherwise made pending and taken by
its owning block, whose reply is queued before the notices of the same operation (R191). -/
def request (link : Link) (k : RequestKind) (body : List Byte) (owner : Work → Reply × Work) (s : State) :
    Host.Outcome State Fault Refusal :=
  let s := s.toHunt link
  if s.restart.phase ≠ .running then .next s.drive
  else if (s.front link).request.isSome then .next (s.judge link (requestByte k) .linkBusy).drive
  else if !permitted k link then .next (s.judge link (requestByte k) .notPermitted).drive
  else
    let s := s.setFront link { s.front link with request := some (k, body) }
    let r := owner ⟨s, []⟩
    (Work.mk (r.2.st.send link (r.1.frame (requestByte k) .reply)) r.2.notes).finish

/-! ## Write engine -/

/-- A ring entry as the fault-log write that goes in flight carries it (R202). -/
def RingEntry.taken (e : RingEntry) : RingEntry := { e with carried := true }

/-- A unit goes in flight: it takes with it the journal header, the damaged marks and the fault ring as they stand (R140,
R202), and the write it carries out is IN_FLIGHT from here on (R152, R202). -/
def State.goInFlight (s : State) (u : WriteUnit) : State :=
  { s with
    engine := { s.engine with
      state := .writing
      inFlight := some ⟨u, s.journal.header, s.journal.marks, s.faultLog.ring.map RingEntry.entry⟩ }
    cal := match u, s.cal.pendingWrite with
      | .calibration .., some (r, _) => { s.cal with pendingWrite := some (r, .inFlight) }
      | _, _ => s.cal
    faultLog := match u with
      | .faultLog => { s.faultLog with ring := s.faultLog.ring.map RingEntry.taken, outstanding := some .inFlight }
      | _ => s.faultLog }

/-- A unit handed to the engine (R138): in flight at once in IDLE, queued in WRITING while the queue has a place, not taken
in SAVING or STOPPED. -/
def State.hand (s : State) (u : WriteUnit) : State :=
  match s.engine.state with
  | .idle => s.goInFlight u
  | .writing =>
    if s.engine.queue.length < 4 then { s with engine := { s.engine with queue := s.engine.queue ++ [u] } } else s
  | .saving | .stopped => s

/-- The engine after a completion (R138): the oldest queued unit in flight, or IDLE. In SAVING the queue has been
abandoned and nothing more is taken (R144). -/
def State.engineNext (s : State) : State :=
  match s.engine.state with
  | .saving | .stopped => { s with engine := { s.engine with inFlight := none } }
  | .idle | .writing =>
    match s.engine.queue with
    | [] => { s with engine := { s.engine with state := .idle, inFlight := none } }
    | u :: q => { s with engine := { s.engine with queue := q } }.goInFlight u

/-! ## Fault log -/

/-- A fault-log write unit. -/
def WriteUnit.isFaultLog : WriteUnit → Bool
  | .faultLog => true
  | _ => false

/-- Whether the engine takes a fault-log write (R138, R139). -/
def Engine.takesFaultLog (e : Engine) : Bool :=
  match e.state with
  | .idle => true
  | .writing => e.queue.length < 4 && !e.queue.any WriteUnit.isFaultLog
  | .saving | .stopped => false

/-- An entry joins the ring at the newest end, unstored and carried by no unit; a full ring loses its oldest (R200). -/
def joinRing (ring : List RingEntry) (e : FaultEntry) : List RingEntry :=
  let r := ring ++ [⟨e, false, false⟩]
  if 32 < r.length then r.drop 1 else r

/-- A fault-log write handed over: QUEUED, or IN_FLIGHT when the engine takes it at once. -/
def State.handFaultLog (s : State) : State :=
  { s with faultLog := { s.faultLog with outstanding := some .queued } }.hand .faultLog

/-- The log takes an entry (R202, steps 2 to 4). -/
def State.logFault (s : State) (e : FaultEntry) : State :=
  let f := s.faultLog
  if f.overflow.isEmpty && f.outstanding.isNone && s.engine.takesFaultLog then
    { s with faultLog := { f with ring := joinRing f.ring e } }.handFaultLog
  else if f.overflow.length < 4 then
    { s with faultLog := { f with overflow := f.overflow ++ [e], wanted := true } }
  else { s with faultLog := { f with lost := bump 255 f.lost } }

/-- The log offers a unit it wants written (R202): when the engine takes it, the overflow joins the ring first. -/
def State.offerFaultLog (s : State) : State :=
  let f := s.faultLog
  if s.engine.takesFaultLog then
    { s with faultLog := { f with ring := f.overflow.foldl joinRing f.ring, overflow := [], wanted := false } }.handFaultLog
  else s

/-- The place-free event at a unit's completion (R202). -/
def State.placeFree (s : State) : State :=
  if s.faultLog.wanted && s.faultLog.outstanding.isNone then s.offerFaultLog else s

/-- A fault-log entry as bytes: time, code, line, detail (R199, R200). -/
def faultItems (e : FaultEntry) : List Item :=
  [.opt 4 (e.time.map (beBytes 4)), .fixed [faultCodeByte e.code],
   .opt 1 (e.line.map (fun l => beBytes 1 (lineNo l))), .fixed (beBytes 4 e.detail.toNat)]

/-- A block raises a fault (R202): FAULT_RAISED to the cab and the metrology port, then the log takes the entry. -/
def Work.fault (code : FaultCode) (line : Option LineId) (detail : BitVec 32) (w : Work) : Work :=
  let e : FaultEntry := ⟨w.st.stamp, code, line, detail⟩
  ((w.notify .cab .faultRaised (layOut (faultItems e))).notify .metrology .faultRaised (layOut (faultItems e))).mapSt
    (fun s => s.logFault e)

/-! ## Order table -/

/-- The order of a slot that is not FREE. -/
def Slot.order? : Slot → Option Order
  | .free => none
  | .waiting o => some o
  | .bound _ o => some o

/-- A slot is FREE. -/
def Slot.isFree : Slot → Bool
  | .free => true
  | _ => false

/-- A slot is WAITING. -/
def Slot.isWaiting : Slot → Bool
  | .waiting _ => true
  | _ => false

/-- A slot is BOUND. -/
def Slot.isBound : Slot → Bool
  | .bound .. => true
  | _ => false

/-- A slot of the table. -/
def OrderTable.slot (t : OrderTable) (n : SlotNo) : Slot := t.slots[n]

/-- The table with one slot replaced. -/
def OrderTable.setSlot (t : OrderTable) (n : SlotNo) (x : Slot) : OrderTable :=
  { t with slots := t.slots.set n.val x n.isLt }

/-- The slot numbers in ascending order. -/
def allSlots : List SlotNo := List.finRange 24

/-- The release of R106: BOUND to WAITING, the order kept as it is. -/
def OrderTable.release (t : OrderTable) (n : SlotNo) : OrderTable :=
  match t.slot n with
  | .bound _ o => t.setSlot n (.waiting o)
  | _ => t

/-- The free of R107: BOUND to FREE, the order removed. -/
def OrderTable.freeBound (t : OrderTable) (n : SlotNo) : OrderTable :=
  match t.slot n with
  | .bound _ _ => t.setSlot n .free
  | _ => t

/-! ## Journal -/

/-- The place a distance after the oldest, round the ring of 256 (R127). -/
def JournalHeader.place (h : JournalHeader) (i : Nat) : Fin 256 := Fin.ofNat 256 (h.oldestPlace + i)

/-- The newest number, which exists only when there is an entry (R128). -/
def JournalHeader.newest? (h : JournalHeader) : Option Nat :=
  if h.count = 0 then none else some (h.oldestNumber + h.count - 1)

/-- The position from the oldest of a number held in the journal (R128). -/
def JournalHeader.position? (h : JournalHeader) (n : Nat) : Option Nat :=
  if h.oldestNumber ≤ n ∧ n < h.oldestNumber + h.count then some (n - h.oldestNumber) else none

/-- The entry states (R129). -/
inductive EntryState | transferred | damaged | closed
deriving DecidableEq, Repr

/-- The state of the entry at a position (R129). -/
def Journal.entryState (j : Journal) (i : Nat) : EntryState :=
  if i < j.header.transferred then .transferred
  else if j.marks.getLsbD (j.header.place i).val then .damaged
  else .closed

/-- The removal of the oldest entry (R130 step 2). -/
def JournalHeader.removeOldest (h : JournalHeader) : JournalHeader where
  oldestPlace := (h.oldestPlace + 1) % 256
  count := h.count - 1
  oldestNumber := h.oldestNumber + 1
  transferred := h.transferred - 1

/-- Check 9 of an ARM (R130): the journal with a place granted, or none for JOURNAL_FULL. -/
def Journal.grant (j : Journal) : Option Journal :=
  if max32 < j.nextNumber + j.reservations then none
  else if j.header.count + j.reservations < 256 then some j
  else if 0 < j.header.count ∧ 0 < j.header.transferred then some { j with header := j.header.removeOldest }
  else none

/-- A reservation taken (R130) or ended (R131). -/
def Journal.reserve (j : Journal) : Journal := { j with reservations := j.reservations + 1 }

/-- As `reserve`, ended. -/
def Journal.unreserve (j : Journal) : Journal := { j with reservations := j.reservations - 1 }

/-- The journal summary of R134: entry count, transferred count, reservation count, oldest and newest number. -/
def summaryItems (j : Journal) : List Item :=
  [.fixed (beBytes 2 j.header.count), .fixed (beBytes 2 j.header.transferred), .fixed (beBytes 1 j.reservations),
   .fixed (beBytes 4 j.header.oldestNumber), .opt 4 (j.header.newest?.map (beBytes 4))]

/-- A number in use of the journal is held in it. -/
def Journal.holdsNumber (j : Journal) (n : Nat) : Bool := (j.header.position? n).isSome

/-- A ticket record with its check code (R133, R197): bytes 0 to 133 and the four of the code over them. -/
def sealTicket (bs : List Byte) : List Byte := bs ++ checkBytes (crc32 bs)

/-- Whether a stored record's check code agrees (R134, R145). -/
def ticketGood (record : List Byte) : Bool := record.drop 134 == checkBytes (crc32 (record.take 134))

/-! ## Audit trail -/

/-- The audit number after one: 1 follows 4,294,967,295 (R158). -/
def auditNext (n : Nat) : Nat := if n < max32 then n + 1 else 1

/-- The audit number a distance after one (R158). -/
def auditAfter (n k : Nat) : Nat := (n - 1 + k) % max32 + 1

/-- An entry joins the trail at the newest end; a full trail loses its oldest (R158). -/
def Store.audited (st : Store) (e : AuditEntry) : Store :=
  if st.audit.length < 64 then { st with audit := st.audit ++ [e] }
  else { st with audit := st.audit.drop 1 ++ [e], auditOldest := auditNext st.auditOldest }

/-- The number of the newest audit entry. -/
def Store.auditNewest (st : Store) : Nat := auditAfter st.auditOldest (st.audit.length - 1)

end Sys2Proof.Machine
end

