-- ==== Sys2Proof/Machine/Arith.lean ====
section
/-! DEFINITION. The arithmetic of a delivery, on the delivery record alone: the increment of a pulse (R2 to R4), bands
(R15), weighting and the running correction (R29 to R34), targets and top-ups (R81 to R92), the final correction and Q
(R35 to R38), pricing (R119 to R123), the latch check code (R48) and the ticket record (R133, R197). -/

namespace Sys2Proof.Machine

/-! ## Rounding (00_scope.md, Rounding) -/

/-- Round half away from zero of `n / d`. -/
def roundHalfAway (n : Int) (d : Nat) : Int :=
  let q : Nat := (2 * n.natAbs + d) / (2 * d)
  if n < 0 then -(q : Int) else (q : Int)

/-- Round half up of `n / d`, for money. -/
def roundHalfUp (n d : Nat) : Nat := (2 * n + d) / (2 * d)

/-- The smallest whole number not less than `n / d`. -/
def ceilDiv (n d : Nat) : Nat := (n + d - 1) / d

/-! ## Metering -/

/-- The frame position after a pulse (R3). -/
def nextFramePos (p : Nat) : Nat := if p = 16 then 1 else p + 1

/-- The increment of a pulse at its new frame position (R4). -/
def increment (f : Factor) (p : Nat) : Nat :=
  f.b.toNat + (if (p - 1) * f.t.toNat / 16 < p * f.t.toNat / 16 then 1 else 0)

/-- The factor of a band. -/
def factorOf (m : MeterRec) : Band → Factor
  | .low => m.low
  | .main => m.main
  | .high => m.high

/-- The default pair of R2: B = 1,000 and T = 0. -/
def defaultFactor : Factor := ⟨1000, 0⟩

/-- The band for the next window (R15). In a latched LINE copy that a disturbance has left with LOW_MAX at or above HIGH_MIN both
the LOW and the HIGH condition can hold, which R15 excludes for a valid record alone: LOW then applies (DESIGN CHOICE, log 42,
unsafe). -/
def selectBand (c : LineRec) (nA : Nat) : Band :=
  if nA ≤ c.lowMax.toNat then .low else if c.highMin.toNat ≤ nA then .high else .main

/-- A PICKUP1 pulse counted in a delivery (R5): frame position, G and Gp. -/
def Delivery.countPulse (d : Delivery) : Delivery × Nat :=
  let p := nextFramePos d.counts.framePos
  let inc := increment (factorOf d.latched.meter d.counts.band) p
  ({ d with counts := { d.counts with
      framePos := p, g := (d.counts.g + inc) % grossWrap, gp := (d.counts.gp + inc) % grossWrap } }, inc)

/-- gross_cL = floor(G / 1,000) (R36). -/
def Delivery.grossCl (d : Delivery) : Nat := d.counts.g / 1000

/-! ## Temperature and correction -/

/-- The average temperature of R31. -/
def Delivery.average (d : Delivery) : Int :=
  if d.counts.gs = 0 then d.corr.lastValid.getD d.latched.product.fallback.toInt
  else roundHalfAway d.corr.w d.counts.gs

/-- The VCF for an average temperature (R32). -/
def vcfOf (alpha : Nat) (tavg : Int) : Nat :=
  let v := 1000000 - roundHalfAway (alpha * (tavg - 1500)) 100
  (max 900000 (min 1100000 v)).toNat

/-- The VCF of a delivery at an average temperature, with its latched α. -/
def Delivery.vcfAt (d : Delivery) (tavg : Int) : Nat := vcfOf d.latched.product.alpha.toNat tavg

/-- The recomputation of the running average and the running VCF (R33). -/
def Delivery.recompute (d : Delivery) : Delivery :=
  if d.counts.gs = 0 ∧ d.corr.lastValid = none then
    { d with corr := { d.corr with runAvg := none, runVcf := 1000000 } }
  else { d with corr := { d.corr with runAvg := some d.average, runVcf := d.vcfAt d.average } }

/-- The weighting of R29: Gp at the temperature used, then the running correction. -/
def Delivery.weight (d : Delivery) (used : Int) : Delivery :=
  Delivery.recompute { d with
    corr := { d.corr with w := d.corr.w + d.counts.gp * used }
    counts := { d.counts with gs := (d.counts.gs + d.counts.gp) % grossWrap, gp := 0 } }

/-- A corrected value is valid (R26). -/
def sampleValid (t : Int) : Bool := -4000 ≤ t && t ≤ 6000

/-- The delivery's side of a probe sample with corrected value `t` (R27, R28). -/
def Delivery.sample (d : Delivery) (t : Int) : Delivery :=
  if sampleValid t then Delivery.weight { d with corr := { d.corr with lastValid := some t } } t
  else Delivery.weight { d with flags := { d.flags with
    tempSubst := d.flags.tempSubst || decide (0 < d.counts.gp), probeFault := true } } d.latched.product.fallback.toInt

/-- The recovery sample of R30. -/
def Delivery.recoverySample (d : Delivery) : Delivery :=
  match d.corr.lastValid with
  | some t => d.weight t
  | none => Delivery.weight { d with flags := { d.flags with
      tempSubst := d.flags.tempSubst || decide (0 < d.counts.gp) } } d.latched.product.fallback.toInt

/-- The running billed quantity of R34, on the basis of the latched PRODUCT copy. -/
def Delivery.runningBilled (d : Delivery) : Nat :=
  min capacity (match d.latched.product.basis with
    | .gross => d.grossCl
    | .net => d.counts.g * d.corr.runVcf / 1000000000)

/-! ## Targets -/

/-- The basis of the targets (R82): a TEST delivery uses GROSS. -/
def Delivery.targetBasis (d : Delivery) : Basis :=
  match d.mode with
  | some .test => .gross
  | _ => d.latched.product.basis

/-- The preset total P with a top-up total (R81 step 1, R92). -/
def Delivery.presetTotal (d : Delivery) (top : Nat) : Nat :=
  match d.preset.kind with
  | some .fill => capacity
  | _ => d.preset.amount.getD 0 + top

/-- The stop target for a top-up total (R81 steps 1 to 3). -/
def Delivery.stopFor (d : Delivery) (top : Nat) : Nat :=
  match d.targetBasis with
  | .gross => d.presetTotal top * 1000
  | .net => ceilDiv (d.presetTotal top * 1000000000) d.corr.runVcf

/-- The slow-down target for a top-up total (R81 step 4). -/
def Delivery.slowFor (d : Delivery) (top : Nat) : Nat :=
  d.stopFor top - d.latched.settings.slowDown.toNat * 1000

/-- The stage that G gives against targets (R84 step 4). -/
def stageFor (g slow stop : Nat) : ValveStage :=
  if stop ≤ g then .closed else if slow ≤ g then .trickle else .full

/-- A load, steps 1 to 4 (R84). -/
def Delivery.load (d : Delivery) : Delivery :=
  let top := d.preset.loadedTop + d.preset.stagedTop
  { d with preset := { d.preset with
      loadedTop := top, stagedTop := 0
      stop := d.stopFor top, slow := d.slowFor top
      stagedStop := d.stopFor top, stagedSlow := d.slowFor top
      stage := stageFor d.counts.g (d.slowFor top) (d.stopFor top) } }

/-- G has reached the loaded stop target. -/
def Delivery.atStop (d : Delivery) : Bool := d.preset.stop ≤ d.counts.g

/-- The end cause of a stop target reached (R65, R89). -/
def Delivery.stopCause (d : Delivery) : EndCause :=
  match d.preset.kind with
  | some .fill => .capacity
  | _ => .preset

/-- The room left for a top-up (R90 step 1). -/
def Delivery.room (d : Delivery) : Nat :=
  capacity - d.preset.amount.getD 0 - d.preset.loadedTop - d.preset.stagedTop

/-- A top-up staged (R90 steps 2 to 4). -/
def Delivery.stageTopUp (d : Delivery) (amount : Nat) : Delivery :=
  let staged := d.preset.stagedTop + min amount d.room
  { d with preset := { d.preset with
      stagedTop := staged
      stagedStop := d.stopFor (d.preset.loadedTop + staged)
      stagedSlow := d.slowFor (d.preset.loadedTop + staged) } }

/-- The staged top-up discarded (R91). -/
def Delivery.discardTopUp (d : Delivery) : Delivery :=
  { d with preset := { d.preset with stagedTop := 0, stagedStop := d.preset.stop, stagedSlow := d.preset.slow } }

/-! ## Latched copies -/

/-- The order copy as the ticket carries it, offsets 0 to 25 of the order body (R125, R133, R196): the tax rate has both bytes at
offset 24, and the presence byte that the table puts at offset 25 too is not there (log 9). -/
def orderBytes (o : OrderCopy) : List Byte :=
  beBytes 4 o.orderId.toNat ++ padTo 10 o.account ++ beBytes 3 o.site.toNat ++ beBytes 1 (productNo o.product)
    ++ [presetKindCode o.kind] ++ beBytes 4 o.amount.toNat
    ++ [match o.plan with | some n => BitVec.ofNat 8 n.val | none => 0xFF] ++ beBytes 2 o.taxRate.toNat

/-- The order copy as the latch check code covers it (R48): offset 25 as 0. -/
def latchedOrder (o : OrderCopy) : List Byte := (orderBytes o).take 25 ++ [0]

/-- An order as a reply reports it, offsets 0 to 34 (R96, R196): all ten fields. The presence byte at offset 25 shows the
arrival time, and the low byte of the tax rate, whose place it takes, stands at offset 34, which no field uses (log 9). -/
def reportedOrder (o : Order) : List Byte :=
  (orderBytes o.copy).take 25 ++ flagByte o.arrival.isSome ++ beBytes 4 (o.arrival.getD 0) ++ beBytes 4 o.seq
    ++ beBytes 1 o.copy.taxRate.toNat

/-- A product's settings as in the body of WRITE_PRODUCT_SETTINGS (R48, R199). -/
def settingsBytes (c : Settings) : List Byte :=
  padTo 12 c.name ++ beBytes 3 c.slowDown.toNat ++ beBytes 1 c.noFlow.toNat

/-- A tier as a list item of its own (R199): bound (or OPEN), unit price, fixed charge. -/
def tierBytes (t : Tier) : List Byte :=
  layOut [.opt 3 (t.bound.map (fun b => beBytes 3 b.toNat)), .fixed (beBytes 3 t.price.toNat),
    .fixed (beBytes 3 t.charge.toNat)]

/-- A plan as in the body of WRITE_PLAN (R48, R199): number, tier count, tiers. -/
def planBytes (number : Nat) (tiers : List Tier) : List Byte :=
  beBytes 1 number ++ beBytes 1 tiers.length ++ (tiers.map tierBytes).flatten

/-- What the latch check code covers (R48): the copies one after another. The product and line only name the records. -/
def latchedBytes (c : Latched) : List Byte :=
  (match c.order with | some o => latchedOrder o | none => [])
    ++ recordBytes true (.product .p0 c.product) ++ recordBytes true (.meter .a .p0 c.meter)
    ++ recordBytes true (.line .a c.line) ++ settingsBytes c.settings
    ++ (match c.plan with | some p => planBytes p.number.val p.tiers | none => [])

/-- The latch check code (R48). -/
def latchCode (c : Latched) : Check := crc32 (latchedBytes c)

/-! ## The close -/

/-- The final correction (R35, R36, R38), before Q. -/
def Delivery.finalCorrection (d : Delivery) : Final where
  average := if d.corr.lastValid.isSome then some d.average else none
  vcf := d.vcfAt d.average
  gross := d.grossCl
  net := d.counts.g * d.vcfAt d.average / 1000000000
  billed := none

/-- The quantity on the billing basis, not limited (R37). -/
def Delivery.unlimitedBilled (d : Delivery) (f : Final) : Nat :=
  match d.latched.product.basis with
  | .gross => f.gross
  | .net => f.net

/-- The price part of a ticket (R123). -/
structure PricePart where
  plan     : PlanNo
  tier     : Nat
  price    : Nat
  charge   : Nat
  subtotal : Nat
  taxRate  : Nat
  tax      : Nat
  total    : Nat
deriving DecidableEq, Repr

/-- A tier's bound lets a quantity in cL fall under it (R119). -/
def tierQualifies (t : Tier) (q : Nat) : Bool :=
  match t.bound with
  | none => true
  | some b => q ≤ b.toNat * 100

/-- The first tier that qualifies, or the last (R119), with its number counted from `n`. -/
def selectTier (q : Nat) : List Tier → Nat → Nat × Tier
  | [], n => (n, ⟨none, 0, 0⟩)
  | [t], n => (n, t)
  | t :: ts, n => if tierQualifies t q then (n, t) else selectTier q ts (n + 1)

/-- The price part for Q on a plan and a tax rate (R119 to R123). -/
def priceOf (plan : PlanCopy) (taxRate q : Nat) : PricePart :=
  let sel := selectTier q plan.tiers 1
  let u := sel.2.price.toNat
  let f := sel.2.charge.toNat
  let subtotal := roundHalfUp (q * u) 10000 + f
  let tax := roundHalfUp (subtotal * taxRate) 10000
  ⟨plan.number, sel.1, u, f, subtotal, taxRate, tax, subtotal + tax⟩

/-- The price part as offsets 112 to 133 of the ticket body (R197), all 0 when absent. -/
def priceBytes : Option PricePart → List Byte
  | none => List.replicate 22 0
  | some p =>
    beBytes 1 p.plan.val ++ beBytes 1 p.tier ++ beBytes 3 p.price ++ beBytes 3 p.charge ++ beBytes 4 p.subtotal
      ++ beBytes 2 p.taxRate ++ beBytes 4 p.tax ++ beBytes 4 p.total

/-- An order copy of no meaning, for a record that holds none. -/
def blankOrder : OrderCopy := ⟨0, [], 0, .p0, .volume, 0, none, 0⟩

/-- The ticket's presence byte (R197). -/
def ticketPresence (d : Delivery) (f : Final) (price : Option PricePart) : Byte :=
  BitVec.ofNat 8 (d.armTime.isSome.toNat + 2 * d.endTime.isSome.toNat + 4 * f.average.isSome.toNat
    + 8 * price.isSome.toNat)

/-- Offsets 0 to 133 of the ticket body (R133, R197), from the delivery record. -/
def ticketBytes (l : LineId) (d : Delivery) (f : Final) (price : Option PricePart) : List Byte :=
  beBytes 4 (d.ticketNumber.getD 0) ++ beBytes 1 (lineNo l) ++ [ticketPresence d f price]
    ++ orderBytes (d.latched.order.getD blankOrder) ++ padTo 12 d.latched.settings.name
    ++ beBytes 4 d.preset.loadedTop ++ beBytes 4 (d.armTime.getD 0) ++ beBytes 4 (d.endTime.getD 0)
    ++ beBytes 7 d.openTot ++ beBytes 7 d.closeTot ++ beBytes 8 d.counts.g
    ++ beBytes 6 f.gross ++ beBytes 6 f.net ++ signedBytes 2 (f.average.getD 0) ++ beBytes 4 f.vcf
    ++ [basisCode d.latched.product.basis] ++ beBytes 4 (f.billed.getD 0)
    ++ [endCode d.endCause] ++ [haltCode d.haltCause] ++ [flagsByte d.flags]
    ++ beBytes 4 d.identity.counter ++ checkBytes d.identity.checksum ++ priceBytes price

/-- The price part of a delivery with Q (R119, R124, R125). -/
def Delivery.price (d : Delivery) (q : Nat) : Option PricePart :=
  d.latched.plan.map (fun p => priceOf p (d.latched.order.getD blankOrder).taxRate.toNat q)

/-- A SALE with G > 0 finished (R70, R178): final correction, Q with the CAPACITY flag (R37), price part and ticket record,
under the ticket number already in the record. -/
def Delivery.finishSale (l : LineId) (d : Delivery) : Delivery :=
  let f0 := d.finalCorrection
  let raw := d.unlimitedBilled f0
  let q := min capacity raw
  let f := { f0 with billed := some q }
  let d1 := { d with final := some f, flags := { d.flags with capacity := d.flags.capacity || decide (capacity < raw) } }
  { d1 with ticket := some (sealTicket (ticketBytes l d1 f (d1.price q))) }

/-- A TEST with G > 0 finished (R71, R180): the final correction without Q and the TEST_RUN entry. -/
def Delivery.finishTest (l : LineId) (interrupted : Bool) (d : Delivery) : Delivery :=
  let f := d.finalCorrection
  { d with
    final := some f
    testRun := some ⟨l, d.product, d.counts.g, f.gross, f.net, f.average, f.vcf, d.openTot, d.closeTot, interrupted, d.endTime⟩ }

/-- A ticket record with INTERRUPTED added and its check code computed again (R179, R197). -/
def interruptTicket (record : List Byte) : List Byte :=
  sealTicket ((record.take 134).modify 103 (· ||| 0x20))

/-! ## A new delivery -/

/-- The preset part at ARM or ARM_TEST (R83), before its targets. -/
def armPreset (kind : PresetKind) (amount : Option Nat) : PresetPart :=
  ⟨some kind, amount, 0, 0, 0, 0, 0, 0, .closed⟩

/-- The first targets, loaded and staged alike (R83). -/
def Delivery.firstTargets (d : Delivery) : Delivery :=
  { d with preset := { d.preset with
      stop := d.stopFor 0, slow := d.slowFor 0, stagedStop := d.stopFor 0, stagedSlow := d.slowFor 0 } }

/-- The delivery record an accepted ARM or ARM_TEST fills (R7, R24, R42, R46, R50, R83). -/
def newDelivery (mode : Mode) (slot : Option SlotNo) (product : Product) (latched : Latched) (identity : Identity)
    (armTime : Option Nat) (openTot : Nat) (kind : PresetKind) (amount : Option Nat) : Delivery :=
  Delivery.firstTargets {
    emptyDelivery with
    mode := some mode
    slot := slot
    product := product
    latched := latched
    checkCode := latchCode latched
    identity := identity
    armTime := armTime
    openTot := openTot
    preset := armPreset kind amount
    flags := { emptyDelivery.flags with clockUnset := armTime.isNone } }

end Sys2Proof.Machine
end

