-- ==== Sys2Proof/Machine/Cycle.lean ====
section
/-! DEFINITION. What the delivery cycle controllers share (chapter 3): a change of line state with its LINE_STATE notice,
pausing, halting, settling, starting to flow, the probe sample, the close, the return to IDLE or UNVERIFIED, and the
effect of an affected calibration record. -/

namespace Sys2Proof.Machine

/-! ## Notice bodies -/

/-- The cause byte of a LINE_STATE notice (R40): the cause that belongs to the new state. -/
def lineStateCause (d : Delivery) (nothing : Bool) : LineState → Byte
  | .paused => pauseCode d.pauseCause
  | .halted => haltCode d.haltCause
  | .settling => endCode d.endCause
  | .idle | .unverified => if nothing then nothingDeliveredCode else 0x00
  | .armed | .flowing | .recording => 0x00

/-- The LINE_STATE body (R198) of a line as it stands after the change. -/
def lineStateBody (l : LineId) (ln : Line) (nothing : Bool) : List Byte :=
  let d := ln.delivery
  let held := ln.state.holds
  beBytes 1 (lineNo l) ++ [lineStateCode ln.state] ++ [modeCode (if held then d.mode else none)]
    ++ [slotByte (if held then d.slot else none)] ++ [lineStateCause d nothing ln.state] ++ beBytes 6 d.grossCl
    ++ beBytes 4 (if ln.state = .recording then d.ticketNumber.getD 0 else 0)

/-- The fields of a TEST_RUN entry (R71, R160). -/
def testRunItems (r : TestRun) : List Item :=
  [.fixed (beBytes 1 (lineNo r.line)), .fixed (beBytes 1 (productNo r.product)), .fixed (beBytes 8 r.g),
   .fixed (beBytes 6 r.gross), .fixed (beBytes 6 r.net), .opt 2 (r.average.map (signedBytes 2)), .fixed (beBytes 4 r.vcf),
   .fixed (beBytes 7 r.openTot), .fixed (beBytes 7 r.closeTot), .fixed (flagByte r.interrupted),
   .opt 4 (r.time.map (beBytes 4))]

/-- The TEST_RESULT body of an entry (R160, R193): line, entry number, TEST_RUN fields. -/
def testResultBody (number : Nat) (r : TestRun) : List Byte :=
  layOut (.fixed (beBytes 1 (lineNo r.line)) :: .fixed (beBytes 4 number) :: testRunItems r)

/-! ## Changes of line state -/

/-- A line in a new state: the timers that belong to the state run (R10, R66), the valve is CLOSED outside FLOWING (R76),
and a new unticketed stay opens on entry to IDLE, UNVERIFIED or RECORDING from another state (R19). -/
def Line.enter (ln : Line) (new : LineState) : Line :=
  let opens := new.isUnticketed && !ln.state.isUnticketed
  { ln with
    state := new
    delivery := { ln.delivery with preset := { ln.delivery.preset with
      stage := if new = .flowing then ln.delivery.preset.stage else .closed } }
    windowRunning := new == .flowing
    quietRunning := new == .settling
    capRunning := new == .settling
    stayOpen := ln.stayOpen || opens
    stayLogged := ln.stayLogged && !opens }

/-- A change of line state and its LINE_STATE notice on the cab and reel links (R40); a move to the same state is no
change. -/
def Work.changeState (l : LineId) (new : LineState) (nothing : Bool) (w : Work) : Work :=
  if (w.st.line l).state = new then w
  else
    let ln := (w.st.line l).enter new
    let w := w.setLine l ln
    (w.notify .cab .lineState (lineStateBody l ln nothing)).notify .reel .lineState (lineStateBody l ln nothing)

/-- A line goes to PAUSED (R43, R52). -/
def Work.pauseLine (l : LineId) (c : PauseCause) (w : Work) : Work :=
  (w.mapDelivery l (fun d => { d with pauseCause := some c })).changeState l .paused false

/-- A line goes to HALTED (R43, R60). -/
def Work.haltLine (l : LineId) (c : HaltCause) (w : Work) : Work :=
  (w.mapDelivery l (fun d => { d with haltCause := some c })).changeState l .halted false

/-- A line goes to SETTLING (R66, R91): the end cause is set, a staged top-up discarded and both timers start. -/
def Work.settleLine (l : LineId) (c : EndCause) (w : Work) : Work :=
  (w.mapDelivery l (fun d => { d.discardTopUp with endCause := some c })).changeState l .settling false

/-- The flow window starts afresh (R10): nA, nB and the zero-window run 0, the band MAIN. -/
def Delivery.startWindow (d : Delivery) : Delivery :=
  { d with counts := { d.counts with nA := 0, nB := 0, band := .main, zeroRun := 0 } }

/-- The load by which a line leaves ARMED or PAUSED (R51, R53, R84, R86, R87): FLOWING, or SETTLING when G is already at
the new stop target. R16 sets the zero-window run to 0 at START and RESUME, and R10 the run, the band, nA and nB when the line
enters FLOWING: a line that goes straight to SETTLING keeps all four (DESIGN CHOICE, log 44, unsafe). -/
def Work.loadAndGo (l : LineId) (w : Work) : Work :=
  let w := w.mapDelivery l Delivery.load
  let d := (w.st.line l).delivery
  if d.atStop then w.settleLine l d.stopCause
  else (w.mapDelivery l Delivery.startWindow).changeState l .flowing false

/-- The state a line takes when its delivery has ended (R69, R72): UNVERIFIED when the halt cause is CAL_INTEGRITY, its
LINE record INVALID or the checksum state FAILED, and IDLE otherwise. -/
def State.restState (s : State) (l : LineId) : LineState :=
  if (s.line l).delivery.haltCause = some .calIntegrity ∨ !s.lineSound l then .unverified else .idle

/-- The state of a line whose delivery is released (R64). -/
def State.releasedState (s : State) (l : LineId) : LineState :=
  if s.lineSound l then .idle else .unverified

/-- The slot and the reservation of a SALE given back (R64, R69). -/
def State.giveBack (s : State) (l : LineId) : State :=
  match (s.line l).delivery.mode, (s.line l).delivery.slot with
  | some .sale, some n => { s with orders := s.orders.release n, journal := s.journal.unreserve }
  | _, _ => s

/-- The release of an ARMED delivery with G = 0 (R64, R9). -/
def Work.release (l : LineId) (w : Work) : Work :=
  let w := (w.mapSt (fun s => s.giveBack l)).mapDelivery l Delivery.discardTopUp
  w.changeState l (w.st.releasedState l) false

/-! ## Probe sample -/

/-- A probe sample with the raw reading `raw` (R26 to R29, R33). The first invalid sample of a delivery makes a
PROBE_FAULT entry with the corrected value as its detail. -/
def Work.probeSample (l : LineId) (raw : BitVec 16) (w : Work) : Work :=
  let ln := w.st.line l
  let d := ln.delivery
  let t := raw.toInt + d.latched.line.probeOffset.toInt
  let temp : TempUnit := if sampleValid t then ⟨some raw.toInt, some t, false, some t⟩
    else ⟨some raw.toInt, some t, true, ln.temp.lastValid⟩
  let w := w.setLine l { ln with temp := temp, delivery := d.sample t }
  if !sampleValid t && !d.flags.probeFault then w.fault .probeFault (some l) (BitVec.ofInt 32 t) else w

/-! ## The close -/

/-- The record at the close, before the close sample (R8, R68 steps 1 and 2). -/
def State.closedRecord (s : State) (l : LineId) : Delivery :=
  let d := (s.line l).delivery
  { d with
    closeTot := (s.line l).totalizer
    endTime := s.stamp
    flags := { d.flags with clockUnset := d.flags.clockUnset || s.stamp.isNone } }

/-- A delivery closed with G = 0 (R69). The TEST_RESULT of a TEST carries the line and NOTHING_DELIVERED alone (log 16). -/
def Work.closeEmpty (l : LineId) (w : Work) : Work :=
  let w1 := w.mapSt (fun s => s.giveBack l)
  let w2 := if (w.st.line l).delivery.mode = some .test
    then w1.notify .metrology .testResult (beBytes 1 (lineNo l) ++ [nothingDeliveredCode]) else w1
  w2.changeState l (w2.st.restState l) true

/-- A SALE closed with G > 0 (R70, R132): it takes the next ticket number, its ticket is computed, the line enters
RECORDING and the append is queued. -/
def Work.closeSale (l : LineId) (w : Work) : Work :=
  let n := w.st.journal.nextNumber
  let w := w.mapSt (fun s => { s with journal := { s.journal with nextNumber := n + 1 } })
  let w := w.mapDelivery l (fun d => Delivery.finishSale l { d with ticketNumber := some n })
  let w := w.changeState l .recording false
  w.mapSt (fun s => s.hand (.journalAppend l false n (n + 1) ((s.line l).delivery.ticket.getD [])))

/-- A TEST closed with G > 0 (R71). -/
def Work.closeTest (l : LineId) (w : Work) : Work :=
  let w := w.mapDelivery l (Delivery.finishTest l false)
  let w := w.changeState l .recording false
  w.mapSt (fun s => match (s.line l).delivery.testRun with
    | some r => s.hand (.testRecord l false r)
    | none => s)

/-- The end of SETTLING (R68): the count closes, the end time is taken, the close sample is taken, and G decides. -/
def Work.close (l : LineId) (raw : BitVec 16) (w : Work) : Work :=
  let w := (w.mapSt (fun s => s.setDelivery l (s.closedRecord l))).probeSample l raw
  if (w.st.line l).delivery.counts.g = 0 then w.closeEmpty l
  else if (w.st.line l).delivery.mode = some .test then w.closeTest l
  else w.closeSale l

/-! ## Affected calibration records -/

/-- The records a delivery on a line with a product latches (R151). -/
def latchedIds (l : LineId) (p : Product) : List RecordId := [.line l, .meter l p, .product p]

/-- A record is latched by the delivery a line holds (R151 check 3). -/
def Line.latches (ln : Line) (l : LineId) (r : RecordId) : Bool :=
  ln.state.holds && (latchedIds l ln.delivery.product).contains r

/-- A controller given the set of affected records (R59). -/
def Work.applyAffected (affected : List RecordId) (l : LineId) (w : Work) : Work :=
  let ln := w.st.line l
  if !affected.any (fun r => ln.latches l r) then w
  else
    match ln.state with
    | .armed | .flowing | .paused => w.haltLine l .calIntegrity
    | .halted | .settling => w.mapDelivery l (fun d => { d with haltCause := some .calIntegrity })
    | .unverified | .idle | .recording => w

/-- An IDLE line that calibration no longer vouches for goes to UNVERIFIED (R41, R166 step 5, R154). -/
def Work.withdrawIdle (l : LineId) (w : Work) : Work :=
  if (w.st.line l).state = .idle ∧ !w.st.lineSound l then w.changeState l .unverified false else w

end Sys2Proof.Machine
end

