-- ==== Sys2Proof/Machine/Integrity.lean ====
section
/-! DEFINITION. Loading the calibration records (R162, R163), the integrity sweep (R164) and what a failed sweep does
(R166). -/

namespace Sys2Proof.Machine

/-- The outcomes of a load (R163). -/
inductive LoadOutcome | clean | corrected | uncorrectable
deriving DecidableEq, Repr

/-- How many stored bits of a record differ from what its correction code was formed over (R163). A stored INVALID record, which
holds no contents (R147), has blank content bits under its code, so a wrong one counts (DESIGN CHOICE, log 12, unsafe). -/
def Store.recordDamage (st : Store) (r : RecordId) : Nat :=
  bitDistance (heldBytes (st.records.get r).1 (st.records.get r).2) (heldBytes (st.sealed.get r).1 (st.sealed.get r).2)

/-- The outcome of loading a record (R163). -/
def Store.loadOutcome (st : Store) (r : RecordId) : LoadOutcome :=
  match st.recordDamage r with
  | 0 => .clean
  | 1 => .corrected
  | _ => .uncorrectable

/-- The shadow a load gives (R163): the stored record as its code leaves it, or INVALID. An INVALID shadow holds no
contents (R147). -/
def Store.loaded (st : Store) (r : RecordId) : Bool × CalRecord :=
  match st.loadOutcome r with
  | .uncorrectable => (false, blankRecord r)
  | .clean | .corrected => if (st.sealed.get r).1 then st.sealed.get r else (false, blankRecord r)

/-- One record loaded: its shadow, its reference check and its fault-log entry (R163). -/
def Work.loadRecord (r : RecordId) (w : Work) : Work :=
  let x := w.st.store.loaded r
  let outcome := w.st.store.loadOutcome r
  let w := w.mapSt (fun s => { s with cal := { s.cal with
    shadows := s.cal.shadows.put x.1 x.2, refs := s.cal.refs.put (recordCheck x.1 x.2) r } })
  match outcome with
  | .clean => w
  | .corrected => w.fault .calCorrected none (BitVec.ofNat 32 (recordNo r))
  | .uncorrectable => w.fault .calUncorrectable none (BitVec.ofNat 32 (recordNo r))

/-- The calibration checksum over the reference checks (R162). -/
def RecordChecks.checksum (c : RecordChecks) : Check := checksumOver (allRecords.map c.get)

/-- The stored checksum fails its correction code (R162): more than one bit is wrong, or one bit is and the code does not
repair it (log 13). -/
def Store.checksumFails (st : Store) : Bool :=
  let n := bitDistance (checkBytes st.checksum) (checkBytes st.checksumSealed)
  1 < n || (n == 1 && !Config.checksumOneBitRepaired)

/-- The load of the stored checksum (R162, R163): the checksum state, and the entry of a checksum that fails its code. -/
def Work.loadChecksum (uncorrectable : Bool) (w : Work) : Work :=
  let fails := w.st.store.checksumFails
  let ok := !uncorrectable && !fails && w.st.store.checksumSealed == w.st.cal.refs.checksum
  let w := w.mapSt (fun s => { s with cal := { s.cal with consistent := ok } })
  if fails then w.fault .calUncorrectable none 14 else w

/-- All 14 records, in record-id order, and then the stored checksum (R163). -/
def Work.loadAll (w : Work) : Work :=
  let bad := allRecords.any (fun r => w.st.store.loadOutcome r == .uncorrectable)
  (allRecords.foldl (fun w r => w.loadRecord r) w).loadChecksum bad

/-- The records of a list whose shadow disagrees with its reference check (R164). -/
def State.mismatched (s : State) (rs : List RecordId) : List RecordId :=
  rs.filter (fun r => s.cal.shadows.check r != s.cal.refs.get r)

/-- The detail of a CAL_INTEGRITY entry (R166 step 1). -/
def mismatchDetail (rs : List RecordId) : BitVec 32 := BitVec.ofNat 32 (rs.map (fun r => 2 ^ recordNo r)).sum

/-- The affected set of a failed sweep (R166 step 3), with the reload done. -/
def State.affectedBy (s : State) (mismatched : List RecordId) : List RecordId :=
  if !s.cal.consistent then allRecords
  else allRecords.filter (fun r => mismatched.contains r || s.store.loadOutcome r != .clean)

/-- What a failed sweep does (R166 steps 1 to 5). Line A comes before line B in the halts and in the withdrawals (DESIGN CHOICE, log
14, unsafe). -/
def Work.failedSweep (mismatched : List RecordId) (w : Work) : Work :=
  let w := (w.fault .calIntegrity none (mismatchDetail mismatched)).loadAll
  let affected := w.st.affectedBy mismatched
  (((w.applyAffected affected .a).applyAffected affected .b).withdrawIdle .a).withdrawIdle .b

end Sys2Proof.Machine
end

