-- ==== Sys2Proof/Machine/Pulses.lean ====
section
/-! DEFINITION. The pulses of the two pickups (chapter 1) and the per-pulse comparison with the targets (R88). -/

namespace Sys2Proof.Machine

/-- Whether the blocks take requests and events (R173 step 2, R175): phase RUNNING. -/
def State.taking (s : State) : Bool := s.restart.phase == .running

/-- The largest window or creep count (R1). -/
def countLimit : Nat := 65535

/-- A total with an increment added, wrapping as R18 and R20 give. -/
def addTotal (total inc : Nat) : Nat := (total + inc) % totalizerWrap

/-- The pulse counted in nA (R5). -/
def Delivery.countA (d : Delivery) : Delivery := { d with counts := { d.counts with nA := bump countLimit d.counts.nA } }

/-- The pulse counted in nB (R13). -/
def Delivery.countB (d : Delivery) : Delivery := { d with counts := { d.counts with nB := bump countLimit d.counts.nB } }

/-- The pulse counted as creep (R5). -/
def Delivery.countCreep (d : Delivery) : Delivery :=
  { d with counts := { d.counts with creep := bump countLimit d.counts.creep } }

/-- The stage after a pulse that does not reach the stop target (R88). -/
def Delivery.slowed (d : Delivery) : Delivery :=
  if d.preset.slow ≤ d.counts.g ∧ d.preset.stage = .full then { d with preset := { d.preset with stage := .trickle } } else d

/-- A pulse of a line that holds an open delivery, before the work its line state adds (R5): G, Gp, the frame position and
the line totalizer. -/
def Work.grossPulse (l : LineId) (w : Work) : Work :=
  let ln := w.st.line l
  let c := ln.delivery.countPulse
  w.setLine l { ln with delivery := c.1, totalizer := addTotal ln.totalizer c.2 }

/-- A pulse in FLOWING (R5, R88). -/
def Work.flowPulse (l : LineId) (w : Work) : Work :=
  let w := (w.grossPulse l).mapDelivery l Delivery.countA
  let d := (w.st.line l).delivery
  if d.atStop then w.settleLine l d.stopCause else w.mapDelivery l Delivery.slowed

/-- A pulse in ARMED or PAUSED (R5, R17): creep, with its limit. -/
def Work.creepPulse (l : LineId) (w : Work) : Work :=
  let w := (w.grossPulse l).mapDelivery l Delivery.countCreep
  let d := (w.st.line l).delivery
  if d.latched.line.creepLimit.toNat < d.counts.creep then
    (w.haltLine l .creep).fault .creep (some l) (BitVec.ofNat 32 d.counts.creep)
  else w

/-- A pulse in SETTLING (R5, R66): the quiet timer starts again at its full time. -/
def Work.settlingPulse (l : LineId) (w : Work) : Work :=
  let w := w.grossPulse l
  w.setLine l { w.st.line l with quietRunning := true }

/-- The live METER_FACTOR record for a line and its idle product is VALID (R2). -/
def State.idleMeterValid (s : State) (l : LineId) : Bool := ((s.cal.shadows.meter.get l).get (s.line l).idleProduct).valid

/-- The pair an unticketed pulse counts with (R2): the MAIN band of the live record, or the default pair. -/
def State.idleFactor (s : State) (l : LineId) : Factor :=
  if s.idleMeterValid l then ((s.cal.shadows.meter.get l).get (s.line l).idleProduct).contents.main else defaultFactor

/-- The detail of an UNTICKETED_FLOW entry (R19). -/
def State.unticketedDetail (s : State) (l : LineId) : Nat :=
  productNo (s.line l).idleProduct + (if s.idleMeterValid l then 0 else 4)

/-- A pulse in IDLE, UNVERIFIED or RECORDING (R18, R19). -/
def Work.unticketedPulse (l : LineId) (w : Work) : Work :=
  let ln := w.st.line l
  let p := nextFramePos ln.delivery.counts.framePos
  let inc := increment (w.st.idleFactor l) p
  let w1 := w.setLine l { ln with
    totalizer := addTotal ln.totalizer inc
    unticketed := addTotal ln.unticketed inc
    stayLogged := true
    delivery := { ln.delivery with counts := { ln.delivery.counts with framePos := p } } }
  if ln.stayLogged then w1 else w1.fault .unticketedFlow (some l) (BitVec.ofNat 32 (w.st.unticketedDetail l))

/-- A PICKUP1 pulse by line state (R5, R18). -/
def Work.pickup1 (l : LineId) (w : Work) : Work :=
  match (w.st.line l).state with
  | .flowing => w.flowPulse l
  | .armed | .paused => w.creepPulse l
  | .halted => (w.grossPulse l).mapDelivery l Delivery.countCreep
  | .settling => w.settlingPulse l
  | .unverified | .idle | .recording => w.unticketedPulse l

/-- PICKUP1_PULSE (R5). Outside phase RUNNING the metering lines take no pulse (R21). -/
def execPickup1Pulse (l : LineId) (s : State) : Host.Outcome State Fault Refusal :=
  event (fun w => if w.st.taking then w.pickup1 l else w) s

/-- PICKUP2_PULSE (R13): counted in nB in FLOWING, without effect otherwise and outside phase RUNNING (R21). -/
def execPickup2Pulse (l : LineId) (s : State) : Host.Outcome State Fault Refusal :=
  event (fun w => if w.st.taking && (w.st.line l).state == .flowing then w.mapDelivery l Delivery.countB else w) s

end Sys2Proof.Machine
end

