-- ==== Sys2Proof/Machine/Completions.lean ====
section
/-! DEFINITION. The completions of the five kinds of write unit (R141, R142, R154, R155, R160, R202). A completion acts when
a unit of its kind is in flight, and otherwise changes nothing (log 4). The block takes it first, the engine then moves to
its next unit, and the fault log is then given the place-free event (log 24). -/

namespace Sys2Proof.Machine

/-- The engine's move after a completion and the place-free event (R138, R202). -/
def Work.finishUnit (w : Work) : Work := w.mapSt (fun s => s.engineNext.placeFree)

/-- A completion of the unit in flight, when `take` knows its kind. -/
def completion (take : InFlight → Option (Work → Work)) (s : State) : Host.Outcome State Fault Refusal :=
  event (fun w =>
    match s.engine.inFlight with
    | none => w
    | some x =>
      match take x with
      | none => w
      | some f => (f w).finishUnit) s

/-! ## Journal append -/

/-- A damaged mark cleared (R142). -/
def clearMark (marks : BitVec 256) (place : Fin 256) : BitVec 256 := marks &&& ~~~(BitVec.ofNat 256 (2 ^ place.val))

/-- The header with one entry more at the newest end (R142). -/
def JournalHeader.appended (h : JournalHeader) : JournalHeader := { h with count := h.count + 1 }

/-- The journal's copies in use after an append (R142, R131). -/
def Journal.appended (j : Journal) (recovery : Bool) : Journal where
  header := j.header.appended
  marks := clearMark j.marks (j.header.place j.header.count)
  nextNumber := j.nextNumber
  reservations := if recovery then j.reservations else j.reservations - 1
  pendingRecovery := if recovery then j.pendingRecovery - 1 else j.pendingRecovery

/-- What a completed append leaves in the store (R140, R142): the record, the next number it carried, and the header and
marks as they stood when it went in flight, with the new entry in them. -/
def Store.appended (st : Store) (place : Fin 256) (ticket : List Byte) (nextNumber : Nat) (h : JournalHeader)
    (marks : BitVec 256) : Store :=
  { st with
    places := st.places.set place.val (some ticket) place.isLt
    nextNumber := nextNumber
    header := h.appended
    marks := clearMark marks place }

/-- The journal takes the completion of an append (R142). -/
def State.takeAppend (s : State) (recovery : Bool) (nextNumber : Nat) (ticket : List Byte) (h : JournalHeader)
    (marks : BitVec 256) : State :=
  { s with
    journal := s.journal.appended recovery
    store := s.store.appended (s.journal.header.place s.journal.header.count) ticket nextNumber h marks }

/-- TICKET_READY (R136): the number and the journal summary. -/
def Work.ticketReady (number : Nat) (w : Work) : Work :=
  w.notify .cab .ticketReady (layOut (.fixed (beBytes 4 number) :: summaryItems w.st.journal))

/-- The slot of a line's SALE freed (R72, R107). -/
def State.freeSlot (s : State) (l : LineId) : State :=
  match (s.line l).delivery.slot with
  | some n => { s with orders := s.orders.freeBound n }
  | none => s

/-- The line's controller finishes a SALE (R72). -/
def Work.finishSaleLine (l : LineId) (number : Nat) (w : Work) : Work :=
  let w := (w.mapSt (fun s => s.freeSlot l)).ticketReady number
  w.changeState l (w.st.restState l) false

/-- What a completed append does, from the unit in flight (R142, R136, R72, R143). -/
def takeAppendUnit (x : InFlight) : Option (Work → Work) :=
  match x.unit with
  | .journalAppend l recovery number nextNumber ticket => some (fun w =>
      let w := w.mapSt (fun s => s.takeAppend recovery nextNumber ticket x.header x.marks)
      if recovery then w.ticketReady number
      else if w.st.taking then w.finishSaleLine l number
      else w)
  | _ => none

/-- JOURNAL_APPEND_COMPLETION (R142). -/
def execJournalAppendCompletion (s : State) : Host.Outcome State Fault Refusal := completion takeAppendUnit s

/-! ## Calibration write -/

/-- What a completed calibration write leaves in the store (R140, R154, R158). -/
def Store.calibrated (st : Store) (c : CalRecord) (checksum : Check) (counter : Nat) (e : AuditEntry) : Store :=
  Store.audited { st with
    records := st.records.put true c
    sealed := st.sealed.put true c
    checksum := checksum
    checksumSealed := checksum
    eventCounter := counter } e

/-- Steps 1 to 5 of a completion of a calibration write (R154). -/
def State.takeCalibration (s : State) (c : CalRecord) (check checksum : Check) (counter : Nat) (e : AuditEntry) : State :=
  { s with
    store := s.store.calibrated c checksum counter e
    cal := { s.cal with
      shadows := s.cal.shadows.put true c
      refs := s.cal.refs.put check c.id
      consistent := (s.cal.refs.put check c.id).checksum == checksum
      pendingWrite := none } }

/-- The WRITE_DONE body (R154): record id, event counter, stored checksum, checksum state. -/
def writeDoneBody (s : State) (r : RecordId) : List Byte :=
  beBytes 1 (recordNo r) ++ beBytes 4 s.store.eventCounter ++ checkBytes s.store.checksum
    ++ [if s.cal.consistent then 0 else 1]

/-- An UNVERIFIED line that calibration vouches for again goes to IDLE (R155). -/
def Work.restore (l : LineId) (w : Work) : Work :=
  if (w.st.line l).state = .unverified ∧ w.st.lineSound l then w.changeState l .idle false else w

/-- What follows a calibration write's completion at the links and the controllers (R154 step 6, R155). Where both
lines change state, line A comes before line B (DESIGN CHOICE, log 14, unsafe). -/
def Work.afterCalibration (r : RecordId) (w : Work) : Work :=
  let w := w.notify .metrology .writeDone (writeDoneBody w.st r)
  let w := if w.st.cal.consistent then w
    else (((w.withdrawIdle .a).withdrawIdle .b).applyAffected allRecords .a).applyAffected allRecords .b
  (w.restore .a).restore .b

/-- What a completed calibration write does, from the unit in flight (R154 to R156). -/
def takeCalibrationUnit (x : InFlight) : Option (Work → Work) :=
  match x.unit with
  | .calibration c check checksum counter e => some (fun w =>
      let w := w.mapSt (fun s => s.takeCalibration c check checksum counter e)
      if w.st.taking then w.afterCalibration c.id else w)
  | _ => none

/-- CALIBRATION_WRITE_COMPLETION (R154). -/
def execCalibrationWriteCompletion (s : State) : Host.Outcome State Fault Refusal := completion takeCalibrationUnit s

/-! ## Test record -/

/-- The written mark set on a held TEST snapshot in RECORDING (R172, log 28). -/
def Snapshot.markWritten (x : Snapshot) : Snapshot :=
  if x.state = .recording ∧ x.delivery.mode = some .test then { x with written := true } else x

/-- The TEST_RUN entry placed in the trail (R160, R158). -/
def State.takeTestRecord (s : State) (l : LineId) (run : TestRun) : State :=
  { s with
    store := s.store.audited (.testRun run)
    restart := if s.taking then s.restart
      else { s.restart with held := s.restart.held.set l (s.restart.held.get l).markWritten } }

/-- TEST_RESULT of the newest audit entry (R160). -/
def Work.testResult (run : TestRun) (w : Work) : Work :=
  w.notify .metrology .testResult (testResultBody w.st.store.auditNewest run)

/-- What a completed test record does, from the unit in flight (R160, R72). -/
def takeTestUnit (x : InFlight) : Option (Work → Work) :=
  match x.unit with
  | .testRecord l recovery run => some (fun w =>
      let w := w.mapSt (fun s => s.takeTestRecord l run)
      if recovery then w.testResult run
      else if w.st.taking then (w.testResult run).changeState l (w.st.restState l) false
      else w)
  | _ => none

/-- TEST_RECORD_COMPLETION (R160). -/
def execTestRecordCompletion (s : State) : Host.Outcome State Fault Refusal := completion takeTestUnit s

/-! ## Restart update -/

/-- The interruption counter and the damaged marks stored (R141, R145; log 27). -/
def State.takeUpdate (s : State) (interruptions : Nat) (marks : BitVec 256) : State :=
  { s with store := { s.store with interruptions := interruptions, marks := s.store.marks ||| marks } }

/-- What a completed restart update does, from the unit in flight (R141). -/
def takeUpdateUnit (x : InFlight) : Option (Work → Work) :=
  match x.unit with
  | .restartUpdate n marks => some (fun w => w.mapSt (fun s => s.takeUpdate n marks))
  | _ => none

/-- RESTART_UPDATE_COMPLETION (R141). -/
def execRestartUpdateCompletion (s : State) : Host.Outcome State Fault Refusal := completion takeUpdateUnit s

/-! ## Fault-log write -/

/-- A ring entry once the fault-log write in flight has completed (R202): stored, if the unit carried it. -/
def RingEntry.completed (e : RingEntry) : RingEntry := ⟨e.entry, e.stored || e.carried, false⟩

/-- The log after its unit, which carried `n` entries, completed (R202): each entry of the ring that the unit carried is
stored, no write is outstanding, and a new one is wanted when the ring has changed since: an entry has joined it, or one that
was carried has left it. -/
def FaultLog.written (f : FaultLog) (n : Nat) : FaultLog :=
  { f with
    ring := f.ring.map RingEntry.completed
    outstanding := none
    wanted := f.wanted || f.ring.any (fun e => !e.carried) || f.ring.length != n }

/-- The fault log takes the completion of its unit (R202). -/
def State.takeFaultLog (s : State) (carried : List FaultEntry) : State :=
  { s with faultLog := s.faultLog.written carried.length, store := { s.store with ring := carried } }

/-- What a completed fault-log write does, from the unit in flight (R202). -/
def takeFaultLogUnit (x : InFlight) : Option (Work → Work) :=
  match x.unit with
  | .faultLog => some (fun w => w.mapSt (fun s => s.takeFaultLog x.ring))
  | _ => none

/-- FAULT_LOG_WRITE_COMPLETION (R202). -/
def execFaultLogWriteCompletion (s : State) : Host.Outcome State Fault Refusal := completion takeFaultLogUnit s

end Sys2Proof.Machine
end

