-- ==== Sys2Proof/Machine/InputEvents.lean ====
section
/-! DEFINITION. The assertions and releases of AIR, ESTOP and PUMP_FAULT (R55 to R57, R79, R80, R201) and the inspection
switch (R58, R150). An input's level is recorded in every phase, since the part takes the inputs as they then stand at the
end of start-up (R175 step 6, log 8); its effects come about in phase RUNNING. -/

namespace Sys2Proof.Machine

/-- A FLOWING line pauses for a blocking input (R55 to R57); any other state is left as it is. -/
def Work.pauseIfFlowing (l : LineId) (c : PauseCause) (w : Work) : Work :=
  if (w.st.line l).state = .flowing then w.pauseLine l c else w

/-- The inputs changed. -/
def State.setInputs (s : State) (f : Inputs → Inputs) : State := { s with inputs := f s.inputs }

/-- The detail of an ESTOP or PUMP_FAULT entry (R201): 1 when the pump output was on. -/
def State.pumpDetail (s : State) : BitVec 32 := if s.pump then 1 else 0

/-- AIR_ASSERTED (R57). -/
def execAirAsserted (l : LineId) (s : State) : Host.Outcome State Fault Refusal :=
  event (fun w =>
    let w := w.mapSt (fun s => s.setInputs (fun i => { i with air := i.air.set l true }))
    if w.st.taking then w.pauseIfFlowing l .air else w) s

/-- AIR_RELEASED (R57): no line state changes. -/
def execAirReleased (l : LineId) (s : State) : Host.Outcome State Fault Refusal :=
  event (fun w => w.mapSt (fun s => s.setInputs (fun i => { i with air := i.air.set l false }))) s

/-- The assertion of ESTOP as the valve and pump unit and both controllers take it (R55, R79, R201; log 33). -/
def Work.takeEstop (w : Work) : Work :=
  let detail := w.st.pumpDetail
  let w := (w.mapSt (fun s => { s with estopHold := true })).fault .estop none detail
  (w.pauseIfFlowing .a .estop).pauseIfFlowing .b .estop

/-- ESTOP_ASSERTED (R55). Taken while ESTOP is already asserted it is not a new assertion (R201). -/
def execEstopAsserted (s : State) : Host.Outcome State Fault Refusal :=
  event (fun w =>
    if w.st.inputs.estop then w
    else
      let w := w.mapSt (fun s => s.setInputs (fun i => { i with estop := true }))
      if w.st.taking then w.takeEstop else w) s

/-- ESTOP_RELEASED (R55, R79): the ESTOP hold ends and no line state changes. -/
def execEstopReleased (s : State) : Host.Outcome State Fault Refusal :=
  event (fun w => w.mapSt (fun s =>
    let s := s.setInputs (fun i => { i with estop := false })
    if s.taking then { s with estopHold := false } else s)) s

/-- The assertion of PUMP_FAULT as the valve and pump unit and both controllers take it (R56, R80, R201; log 33). -/
def Work.takePumpFault (w : Work) : Work :=
  let w := w.fault .pumpFault none w.st.pumpDetail
  (w.pauseIfFlowing .a .pump).pauseIfFlowing .b .pump

/-- PUMP_FAULT_ASSERTED (R56). Taken while PUMP_FAULT is already asserted it is not a new assertion (R201). -/
def execPumpFaultAsserted (s : State) : Host.Outcome State Fault Refusal :=
  event (fun w =>
    if w.st.inputs.pumpFault then w
    else
      let w := w.mapSt (fun s => s.setInputs (fun i => { i with pumpFault := true }))
      if w.st.taking then w.takePumpFault else w) s

/-- PUMP_FAULT_RELEASED (R56, R80). -/
def execPumpFaultReleased (s : State) : Host.Outcome State Fault Refusal :=
  event (fun w => w.mapSt (fun s => s.setInputs (fun i => { i with pumpFault := false }))) s

/-- The INSPECTION_OPENED flag set on an open SALE delivery (R58). -/
def Work.markOpened (l : LineId) (w : Work) : Work :=
  if (w.st.line l).state.isOpen && (w.st.line l).delivery.mode == some .sale then
    w.mapDelivery l (fun d => { d with flags := { d.flags with inspectionOpened := true } })
  else w

/-- INSPECTION_SWITCH_OPENED (R58, R150). -/
def execInspectionSwitchOpened (s : State) : Host.Outcome State Fault Refusal :=
  event (fun w =>
    let w := w.mapSt (fun s => s.setInputs (fun i => { i with inspectionOpen := true }))
    if w.st.taking then (w.markOpened .a).markOpened .b else w) s

/-- INSPECTION_SWITCH_CLOSED (R58, R150): nothing is cleared. -/
def execInspectionSwitchClosed (s : State) : Host.Outcome State Fault Refusal :=
  event (fun w => w.mapSt (fun s => s.setInputs (fun i => { i with inspectionOpen := false }))) s

end Sys2Proof.Machine
end

