-- ==== Sys2Proof/Machine/Operands.lean ====
section
/-! DEFINITION. The operands of the requests: the fields of a request body, laid out as R195, R196 and R199 give, with the
ranges of their rules. A parser answers none where the owning block refuses with OUT_OF_RANGE: a body of a wrong length
(R189) or a field outside its range. -/

namespace Sys2Proof.Machine

/-- A body of no fields: its length must be 0 (R189, R199). -/
def parseEmpty (body : List Byte) : Option Unit := if body.length = 0 then some () else none

/-- A body that names a line (R195): START, PAUSE, RESUME, END, DISARM, STOP_LINE, READ_LINE. -/
def parseLine (body : List Byte) : Option LineId :=
  if body.length = 1 then lineOf? (field body 0 1) else none

/-- The order body of LOAD_ORDER, offsets 0 to 25 (R96, R97 check 1, R196): the tax rate is the two bytes at offset 24, the
second of which, at offset 25, is read for the rate and not for the presence byte that the table puts there too (log 9). -/
def parseLoadOrder (body : List Byte) : Option OrderCopy :=
  if body.length ≠ 26 then none
  else
    let orderId := field body 0 4
    let amount := field body 19 4
    let plan := field body 23 1
    let tax := field body 24 2
    match parseChars ((body.drop 4).take 10), productOf? (field body 17 1) with
    | some account, some product =>
      let kind? : Option PresetKind :=
        match field body 18 1 with
        | 0 => if 1 ≤ amount ∧ amount ≤ 9999999 then some .volume else none
        | 1 => if amount = 0 then some .fill else none
        | _ => none
      let plan? : Option (Option PlanNo) :=
        if h : plan < 8 then some (some ⟨plan, h⟩) else if plan = 255 then some none else none
      match kind?, plan? with
      | some kind, some p =>
        if orderId = 0 ∨ account.isEmpty ∨ 5000 < tax then none
        else some ⟨BitVec.ofNat 32 orderId, account, BitVec.ofNat 24 (field body 14 3), product, kind,
          BitVec.ofNat 32 amount, p, BitVec.ofNat 16 tax⟩
      | _, _ => none
    | _, _ => none

/-- WITHDRAW_ORDER: an order id, not 0 (R100). -/
def parseOrderId (body : List Byte) : Option Nat :=
  if body.length = 4 ∧ field body 0 4 ≠ 0 then some (field body 0 4) else none

/-- READ_ORDERS: a first slot, 0..23 (R101). -/
def parseSlot (body : List Byte) : Option SlotNo :=
  if body.length = 1 then (if h : field body 0 1 < 24 then some ⟨field body 0 1, h⟩ else none) else none

/-- SEARCH_ORDER: a key and a mask, three bytes each (R102). -/
def parseSearch (body : List Byte) : Option (BitVec 24 × BitVec 24) :=
  if body.length = 6 then some (BitVec.ofNat 24 (field body 0 3), BitVec.ofNat 24 (field body 3 3)) else none

/-- One tier of WRITE_PLAN (R113, R199): a presence byte whose bit 0 is clear for OPEN, bound, unit price, fixed charge;
each within its range (R114 check 3). -/
def parseTier (bs : List Byte) : Option Tier :=
  let bound := field bs 1 3
  let price := field bs 4 3
  let charge := field bs 7 3
  let isOpen := (field bs 0 1) % 2 = 0
  if (¬ isOpen ∧ (bound = 0 ∨ 99999 < bound)) ∨ 99999 < price ∨ 999999 < charge then none
  else some ⟨if isOpen then none else some (BitVec.ofNat 24 bound), BitVec.ofNat 24 price, BitVec.ofNat 24 charge⟩

/-- `n` tiers of ten bytes each. -/
def parseTiers : Nat → List Byte → Option (List Tier)
  | 0, _ => some []
  | n + 1, bs =>
    match parseTier (bs.take 10), parseTiers n (bs.drop 10) with
    | some t, some ts => some (t :: ts)
    | _, _ => none

/-- WRITE_PLAN: a plan number and its tiers (R114 checks 1 to 3). -/
def parseWritePlan (body : List Byte) : Option (PlanNo × List Tier) :=
  let number := field body 0 1
  let count := field body 1 1
  if h : number < 8 then
    if 8 < count ∨ body.length ≠ 2 + 10 * count then none
    else (parseTiers count (body.drop 2)).map (fun ts => (⟨number, h⟩, ts))
  else none

/-- READ_PLAN: a plan number (R116). -/
def parsePlanNo (body : List Byte) : Option PlanNo :=
  if body.length = 1 then (if h : field body 0 1 < 8 then some ⟨field body 0 1, h⟩ else none) else none

/-- WRITE_PRODUCT_SETTINGS: product, name, slow-down volume, no-flow limit (R149). -/
def parseSettings (body : List Byte) : Option (Product × Settings) :=
  if body.length ≠ 17 then none
  else
    let slow := field body 13 3
    let noFlow := field body 16 1
    match productOf? (field body 0 1), parseChars ((body.drop 1).take 12) with
    | some p, some name =>
      if 99999 < slow ∨ noFlow < 5 ∨ 120 < noFlow then none
      else some (p, ⟨name, BitVec.ofNat 24 slow, BitVec.ofNat 8 noFlow⟩)
    | _, _ => none

/-- SET_CLOCK and ACK_TICKETS: a number of four bytes (R183, R135). -/
def parseNumber32 (body : List Byte) : Option Nat :=
  if body.length = 4 then some (field body 0 4) else none

/-- READ_TICKET and READ_AUDIT: a number above 0, or the keyword when the presence bit is clear (R134, R161, R199). -/
def parseNumberOrKeyword (body : List Byte) : Option (Option Nat) :=
  if body.length ≠ 5 then none
  else if field body 0 1 % 2 = 0 then some none
  else if field body 1 4 = 0 then none
  else some (some (field body 1 4))

/-- READ_FAULT_LOG: a start position, 0..31 (R203). -/
def parsePosition (body : List Byte) : Option Nat :=
  if body.length = 1 ∧ field body 0 1 ≤ 31 then some (field body 0 1) else none

/-- ARM: a line and a slot (R44). -/
def parseArm (body : List Byte) : Option (LineId × SlotNo) :=
  if body.length = 2 then
    match lineOf? (field body 0 1) with
    | some l => if h : field body 1 1 < 24 then some (l, ⟨field body 1 1, h⟩) else none
    | none => none
  else none

/-- ADD: a line and an amount, 1..9,999,999 cL (R90). -/
def parseAdd (body : List Byte) : Option (LineId × Nat) :=
  if body.length = 4 ∧ 1 ≤ field body 1 3 ∧ field body 1 3 ≤ 9999999 then
    (lineOf? (field body 0 1)).map (fun l => (l, field body 1 3))
  else none

/-- ARM_TEST: a line, a product and an optional gross preset, 1..9,999,999 cL (R49). -/
def parseArmTest (body : List Byte) : Option (LineId × Product × Option Nat) :=
  if body.length ≠ 6 then none
  else
    match lineOf? (field body 1 1), productOf? (field body 2 1) with
    | some l, some p =>
      if field body 0 1 % 2 = 0 then some (l, p, none)
      else if 1 ≤ field body 3 3 ∧ field body 3 3 ≤ 9999999 then some (l, p, some (field body 3 3))
      else none
    | _, _ => none

/-- READ_RECORD: a record id (R169). -/
def parseRecordId (body : List Byte) : Option RecordId :=
  if body.length = 1 then recordOf? (field body 0 1) else none

/-- A band's factor at an offset of a body. -/
def parseFactor (body : List Byte) (off : Nat) : Factor :=
  ⟨BitVec.ofNat 16 (field body off 2), BitVec.ofNat 8 (field body (off + 2) 1)⟩

/-- The contents of a record of a kind, as they follow the record id (R147, R199). -/
def parseContents (r : RecordId) (bs : List Byte) : Option CalRecord :=
  if bs.length ≠ contentLength r then none
  else
    match r with
    | .line l =>
      some (.line l ⟨BitVec.ofNat 16 (field bs 0 2), BitVec.ofNat 16 (field bs 2 2), BitVec.ofNat 8 (field bs 4 1),
        BitVec.ofNat 8 (field bs 5 1), BitVec.ofNat 16 (field bs 6 2)⟩)
    | .meter l p => some (.meter l p ⟨parseFactor bs 0, parseFactor bs 3, parseFactor bs 6⟩)
    | .product p =>
      match field bs 4 1 with
      | 0 => some (.product p ⟨BitVec.ofNat 16 (field bs 0 2), BitVec.ofNat 16 (field bs 2 2), .gross⟩)
      | 1 => some (.product p ⟨BitVec.ofNat 16 (field bs 0 2), BitVec.ofNat 16 (field bs 2 2), .net⟩)
      | _ => none

/-- WRITE_RECORD: a record id and contents of its kind, each field within its range (R151 check 2). -/
def parseWriteRecord (body : List Byte) : Option CalRecord :=
  match recordOf? (field body 0 1) with
  | some r =>
    match parseContents r (body.drop 1) with
    | some c => if recordInRange c then some c else none
    | none => none
  | none => none

end Sys2Proof.Machine
end

