-- ==== Sys2Proof/Machine/CalRequests.lean ====
section
/-! DEFINITION. WRITE_RECORD (R151, R152), the request that changes the calibration. -/

namespace Sys2Proof.Machine

/-- The largest event counter (R157). -/
def counterLimit : Nat := 999999

/-- The write unit of an accepted WRITE_RECORD (R152 steps 1 to 4): the new record with its check, the checksum over the
reference checks with the new one in its place, the counter and the CAL_CHANGE entry. -/
def State.calibrationUnit (s : State) (c : CalRecord) : WriteUnit :=
  let check := recordCheck true c
  let old := s.cal.shadows.get c.id
  .calibration c check (s.cal.refs.put check c.id).checksum (s.store.eventCounter + 1)
    (.calChange (s.store.eventCounter + 1) s.stamp (if old.1 then some old.2 else none) c)

/-- An accepted WRITE_RECORD (R152): the unit handed over and the write pending, QUEUED until the unit goes in flight. -/
def State.acceptWrite (s : State) (c : CalRecord) : State :=
  { s with cal := { s.cal with pendingWrite := some (c.id, .queued) } }.hand (s.calibrationUnit c)

/-- WRITE_RECORD at the calibration unit (R151). -/
def ownWriteRecord (body : List Byte) (w : Work) : Reply × Work :=
  if !w.st.inputs.inspectionOpen then (.refused .inspectionClosed, w)
  else
    match parseWriteRecord body with
    | none => (.refused .outOfRange, w)
    | some c =>
      if w.st.lines.a.latches .a c.id || w.st.lines.b.latches .b c.id then (.refused .inUse, w)
      else if w.st.cal.pendingWrite.isSome then (.refused .calBusy, w)
      else if counterLimit ≤ w.st.store.eventCounter then (.refused .counterExhausted, w)
      else
        (.ok (beBytes 1 (recordNo c.id) ++ beBytes 4 (w.st.store.eventCounter + 1)), w.mapSt (fun s => s.acceptWrite c))

/-- WRITE_RECORD (R151). -/
def execWriteRecord (link : Link) (body : List Byte) (s : State) : Host.Outcome State Fault Refusal :=
  request link .writeRecord body (ownWriteRecord body) s

end Sys2Proof.Machine
end

