-- ==== Sys2Proof/Machine/LineRequests.lean ====
section
/-! DEFINITION. The requests of a delivery cycle controller (chapter 3, section 3.10): ARM, ARM_TEST, START, PAUSE, RESUME,
ADD, END, STOP_LINE and DISARM. -/

namespace Sys2Proof.Machine

/-- The reply that carries the line alone (R190). -/
def lineReply (l : LineId) : Reply := .ok (beBytes 1 (lineNo l))

/-- The refusal of a line request in a state that does not take it (R41, section 3.10). -/
def LineState.busyCode : LineState → RefusalCode
  | .unverified => .unverified
  | .idle | .armed | .flowing | .paused | .halted | .settling | .recording => .lineBusy

/-! ## Arming -/

/-- The live records that a pairing of line and product counts with are VALID (R44 check 6, R49 check 4). -/
def State.pairingValid (s : State) (l : LineId) (p : Product) : Bool :=
  (s.cal.shadows.product.get p).valid && ((s.cal.shadows.meter.get l).get p).valid

/-- A calibration write on one of the pairing's three records is pending (R44 check 7, R49 check 5). -/
def State.pairingBusy (s : State) (l : LineId) (p : Product) : Bool :=
  match s.cal.pendingWrite with
  | some (r, _) => (latchedIds l p).contains r
  | none => false

/-- The calibration identity as it stands (R46 step 5, R162). DESIGN CHOICE (log 41, unsafe): of a stored checksum with a wrong bit
the stored bits are recorded as they stand, and not what a repair would make of them. -/
def State.identity (s : State) : Identity := ⟨s.store.eventCounter, s.store.checksum⟩

/-- The copies a delivery latches (R46 step 3), beside its order and plan. -/
def State.latch (s : State) (l : LineId) (p : Product) (order : Option OrderCopy) (plan : Option PlanCopy) : Latched where
  order := order
  product := (s.cal.shadows.product.get p).contents
  meter := ((s.cal.shadows.meter.get l).get p).contents
  line := (s.cal.shadows.line.get l).contents
  settings := s.cal.settings.get p
  plan := plan

/-- The line with a new delivery record and its count begun (R7): the idle product is the delivery's and the unticketed
stay is closed. -/
def Line.begin (ln : Line) (d : Delivery) : Line :=
  { ln with delivery := d, idleProduct := d.product, stayOpen := false, stayLogged := false }

/-- The slot goes from WAITING to BOUND for a line (R105). -/
def OrderTable.bind (t : OrderTable) (n : SlotNo) (l : LineId) (o : Order) : OrderTable := t.setSlot n (.bound l o)

/-- The price plan an order names, with its number (R46 step 3): none for NONE. -/
def State.planOf (s : State) (o : OrderCopy) : Option PlanCopy := o.plan.map (fun n => ⟨n, s.plans[n]⟩)

/-- An order names a plan that is EMPTY (R44 check 8). -/
def State.planMissing (s : State) (o : OrderCopy) : Bool :=
  match o.plan with
  | some n => (s.plans[n]).isEmpty
  | none => false

/-- The delivery record of an accepted ARM (R46). -/
def State.saleDelivery (s : State) (l : LineId) (n : SlotNo) (o : Order) : Delivery :=
  newDelivery .sale (some n) o.copy.product (s.latch l o.copy.product (some o.copy) (s.planOf o.copy)) s.identity s.stamp
    (s.line l).totalizer o.copy.kind
    (match o.copy.kind with | .volume => some o.copy.amount.toNat | .fill => none)

/-- The delivery record of an accepted ARM_TEST (R50). -/
def State.testDelivery (s : State) (l : LineId) (p : Product) (preset : Option Nat) : Delivery :=
  newDelivery .test none p (s.latch l p none none) s.identity s.stamp (s.line l).totalizer
    (if preset.isSome then .volume else .fill) preset

/-- An accepted ARM (R46), with the journal as check 9 left it. -/
def Work.acceptArm (l : LineId) (n : SlotNo) (o : Order) (j : Journal) (w : Work) : Work :=
  let d := w.st.saleDelivery l n o
  let w := w.mapSt (fun s => { s with orders := s.orders.bind n l o, journal := j.reserve })
  (w.setLine l ((w.st.line l).begin d)).changeState l .armed false

/-- An accepted ARM_TEST (R50). -/
def Work.acceptArmTest (l : LineId) (p : Product) (preset : Option Nat) (w : Work) : Work :=
  (w.setLine l ((w.st.line l).begin (w.st.testDelivery l p preset))).changeState l .armed false

/-- ARM on a WAITING slot, checks 6 to 9 (R44, R45) and the acceptance (R46). -/
def armWaiting (l : LineId) (n : SlotNo) (o : Order) (w : Work) : Reply × Work :=
  let p := o.copy.product
  if !w.st.pairingValid l p then (.refused .productUnverified, w)
  else if w.st.pairingBusy l p then (.refused .calBusy, w)
  else
    let bad := w.st.mismatched (latchedIds l p)
    if !bad.isEmpty then (.refused .unverified, w.failedSweep bad)
    else if w.st.planMissing o.copy then (.refused .planEmpty, w)
    else
      match w.st.journal.grant with
      | none => (.refused .journalFull, w)
      | some j =>
        (.ok (beBytes 1 (lineNo l) ++ beBytes 1 n.val ++ beBytes 4 o.copy.orderId.toNat), w.acceptArm l n o j)

/-- ARM at the line's controller (R44). -/
def ownArm (body : List Byte) (w : Work) : Reply × Work :=
  match parseArm body with
  | none => (.refused .outOfRange, w)
  | some (l, n) =>
    if (w.st.line l).state ≠ .idle then (.refused (w.st.line l).state.busyCode, w)
    else if w.st.inputs.inspectionOpen then (.refused .inspectionOpen, w)
    else if w.st.inputs.estop then (.refused .estop, w)
    else
      match w.st.orders.slot n with
      | .free => (.refused .orderEmpty, w)
      | .bound _ _ => (.refused .orderBound, w)
      | .waiting o => armWaiting l n o w

/-- ARM (R44). -/
def execArm (link : Link) (body : List Byte) (s : State) : Host.Outcome State Fault Refusal :=
  request link .arm body (ownArm body) s

/-- ARM_TEST on an IDLE line, checks 4 to 6 (R49) and the acceptance (R50). -/
def armTestIdle (l : LineId) (p : Product) (preset : Option Nat) (w : Work) : Reply × Work :=
  if !w.st.pairingValid l p then (.refused .productUnverified, w)
  else if w.st.pairingBusy l p then (.refused .calBusy, w)
  else
    let bad := w.st.mismatched (latchedIds l p)
    if !bad.isEmpty then (.refused .unverified, w.failedSweep bad)
    else (.ok (beBytes 1 (lineNo l) ++ beBytes 1 (productNo p)), w.acceptArmTest l p preset)

/-- ARM_TEST at the line's controller (R49). -/
def ownArmTest (body : List Byte) (w : Work) : Reply × Work :=
  match parseArmTest body with
  | none => (.refused .outOfRange, w)
  | some (l, p, preset) =>
    if (w.st.line l).state ≠ .idle then (.refused (w.st.line l).state.busyCode, w)
    else if !w.st.inputs.inspectionOpen then (.refused .inspectionClosed, w)
    else if w.st.inputs.estop then (.refused .estop, w)
    else armTestIdle l p preset w

/-- ARM_TEST (R49). -/
def execArmTest (link : Link) (body : List Byte) (s : State) : Host.Outcome State Fault Refusal :=
  request link .armTest body (ownArmTest body) s

/-! ## Starting, pausing and resuming -/

/-- The first blocking input asserted on a line, as the refusal it gives (R51, R53). -/
def State.blocking (s : State) (l : LineId) : Option RefusalCode :=
  if s.inputs.estop then some .estop
  else if s.inputs.pumpFault then some .pumpFault
  else if s.inputs.air.get l then some .air
  else none

/-- A request that takes a line out of one state by a load, when no input blocks it (R51, R53, R86, R87). -/
def goFrom (from' : LineState) (l : LineId) (reply : Work → Reply) (w : Work) : Reply × Work :=
  if (w.st.line l).state ≠ from' then (.refused (w.st.line l).state.busyCode, w)
  else
    match w.st.blocking l with
    | some c => (.refused c, w)
    | none => (reply (w.loadAndGo l), w.loadAndGo l)

/-- START at the line's controller (R51): the reply carries the line and the state it has entered. -/
def ownStart (body : List Byte) (w : Work) : Reply × Work :=
  match parseLine body with
  | none => (.refused .outOfRange, w)
  | some l => goFrom .armed l (fun v => .ok (beBytes 1 (lineNo l) ++ [lineStateCode (v.st.line l).state])) w

/-- START (R51). -/
def execStart (link : Link) (body : List Byte) (s : State) : Host.Outcome State Fault Refusal :=
  request link .start body (ownStart body) s

/-- PAUSE at the line's controller (R52). -/
def ownPause (body : List Byte) (w : Work) : Reply × Work :=
  match parseLine body with
  | none => (.refused .outOfRange, w)
  | some l =>
    if (w.st.line l).state ≠ .flowing then (.refused (w.st.line l).state.busyCode, w)
    else (lineReply l, w.pauseLine l .driver)

/-- PAUSE (R52). -/
def execPause (link : Link) (body : List Byte) (s : State) : Host.Outcome State Fault Refusal :=
  request link .pause body (ownPause body) s

/-- RESUME at the line's controller (R53). -/
def ownResume (body : List Byte) (w : Work) : Reply × Work :=
  match parseLine body with
  | none => (.refused .outOfRange, w)
  | some l => goFrom .paused l (fun _ => lineReply l) w

/-- RESUME (R53). -/
def execResume (link : Link) (body : List Byte) (s : State) : Host.Outcome State Fault Refusal :=
  request link .resume body (ownResume body) s

/-- The states in which ADD reaches the valve and pump unit (R54). -/
def LineState.takesAdd : LineState → Bool
  | .armed | .flowing | .paused => true
  | .unverified | .idle | .halted | .settling | .recording => false

/-- The reply of an accepted ADD (R90): the line, the amount staged and the staged stop target. -/
def addReply (l : LineId) (staged : Nat) (d : Delivery) : Reply :=
  .ok (beBytes 1 (lineNo l) ++ beBytes 3 staged ++ beBytes 5 d.preset.stagedStop)

/-- ADD at the controller and the valve and pump unit (R54, R90). -/
def ownAdd (body : List Byte) (w : Work) : Reply × Work :=
  match parseAdd body with
  | none => (.refused .outOfRange, w)
  | some (l, amount) =>
    let d := (w.st.line l).delivery
    if !(w.st.line l).state.takesAdd then (.refused (w.st.line l).state.busyCode, w)
    else if d.preset.kind = some .fill then (.refused .notPreset, w)
    else (addReply l (min amount d.room) (d.stageTopUp amount), w.mapDelivery l (Delivery.stageTopUp · amount))

/-- ADD (R54). -/
def execAdd (link : Link) (body : List Byte) (s : State) : Host.Outcome State Fault Refusal :=
  request link .add body (ownAdd body) s

/-! ## Ending -/

/-- END or STOP_LINE with the end cause it sets (R62, R63). -/
def endLine (c : EndCause) (l : LineId) (w : Work) : Reply × Work :=
  match (w.st.line l).state with
  | .unverified | .idle => (.refused (w.st.line l).state.busyCode, w)
  | .settling | .recording => (.accepted alreadyEnding (beBytes 1 (lineNo l)), w)
  | .armed => (lineReply l, if (w.st.line l).delivery.counts.g = 0 then w.release l else w.settleLine l c)
  | .flowing | .paused | .halted => (lineReply l, w.settleLine l c)

/-- END at the line's controller (R62). -/
def ownEndDelivery (body : List Byte) (w : Work) : Reply × Work :=
  match parseLine body with
  | none => (.refused .outOfRange, w)
  | some l => endLine .driverEnd l w

/-- END (R62). -/
def execEndDelivery (link : Link) (body : List Byte) (s : State) : Host.Outcome State Fault Refusal :=
  request link .endDelivery body (ownEndDelivery body) s

/-- STOP_LINE at the line's controller (R63). -/
def ownStopLine (body : List Byte) (w : Work) : Reply × Work :=
  match parseLine body with
  | none => (.refused .outOfRange, w)
  | some l => endLine .cabStop l w

/-- STOP_LINE (R63). -/
def execStopLine (link : Link) (body : List Byte) (s : State) : Host.Outcome State Fault Refusal :=
  request link .stopLine body (ownStopLine body) s

/-- DISARM at the line's controller (R64). -/
def ownDisarm (body : List Byte) (w : Work) : Reply × Work :=
  match parseLine body with
  | none => (.refused .outOfRange, w)
  | some l =>
    if (w.st.line l).state = .armed ∧ (w.st.line l).delivery.counts.g = 0 then (lineReply l, w.release l)
    else (.refused (w.st.line l).state.busyCode, w)

/-- DISARM (R64). -/
def execDisarm (link : Link) (body : List Byte) (s : State) : Host.Outcome State Fault Refusal :=
  request link .disarm body (ownDisarm body) s

end Sys2Proof.Machine
end

