-- ==== Sys2Proof/Machine/Orders.lean ====
section
/-! DEFINITION. The order table's requests (chapter 5): LOAD_ORDER, WITHDRAW_ORDER, READ_ORDERS, SEARCH_ORDER. -/

namespace Sys2Proof.Machine

/-- The slot holding an order id among the WAITING and BOUND slots (R97 check 2, R100). -/
def OrderTable.find (t : OrderTable) (id : Nat) : Option SlotNo :=
  allSlots.find? (fun n => (t.slot n).order?.any (fun o => o.copy.orderId.toNat == id))

/-- The FREE slot with the lowest number (R98). -/
def OrderTable.lowestFree (t : OrderTable) : Option SlotNo := allSlots.find? (fun n => (t.slot n).isFree)

/-- The counter after an accepted LOAD_ORDER (R99): it stays at its limit. -/
def nextSequence (n : Nat) : Nat := bump max32 n

/-- An order placed in a slot (R98): WAITING, with its arrival time and the counter's value as its sequence. -/
def OrderTable.place (t : OrderTable) (n : SlotNo) (o : OrderCopy) (arrival : Option Nat) : OrderTable :=
  { t.setSlot n (.waiting ⟨o, arrival, t.counter⟩) with counter := nextSequence t.counter }

/-- LOAD_ORDER at the order table (R97, R98). -/
def ownLoadOrder (body : List Byte) (w : Work) : Reply × Work :=
  match parseLoadOrder body with
  | none => (.refused .outOfRange, w)
  | some o =>
    if (w.st.orders.find o.orderId.toNat).isSome then (.refused .duplicateOrder, w)
    else
      match w.st.orders.lowestFree with
      | none => (.refused .tableFull, w)
      | some n =>
        (.ok (beBytes 1 n.val ++ beBytes 4 w.st.orders.counter),
         w.mapSt (fun s => { s with orders := s.orders.place n o s.stamp }))

/-- LOAD_ORDER (R97). -/
def execLoadOrder (link : Link) (body : List Byte) (s : State) : Host.Outcome State Fault Refusal :=
  request link .loadOrder body (ownLoadOrder body) s

/-- WITHDRAW_ORDER at the order table (R100). -/
def ownWithdrawOrder (body : List Byte) (w : Work) : Reply × Work :=
  match parseOrderId body with
  | none => (.refused .outOfRange, w)
  | some id =>
    match w.st.orders.find id with
    | none => (.refused .orderEmpty, w)
    | some n =>
      if (w.st.orders.slot n).isBound then (.refused .orderBound, w)
      else (.ok (beBytes 1 n.val), w.mapSt (fun s => { s with orders := s.orders.setSlot n .free }))

/-- WITHDRAW_ORDER (R100). -/
def execWithdrawOrder (link : Link) (body : List Byte) (s : State) : Host.Outcome State Fault Refusal :=
  request link .withdrawOrder body (ownWithdrawOrder body) s

/-- The WAITING and BOUND slots from a slot number on (R101). -/
def OrderTable.listed (t : OrderTable) (first : Nat) : List SlotNo :=
  allSlots.filter (fun n => decide (first ≤ n.val) && !(t.slot n).isFree)

/-- A slot as READ_ORDERS lists it (R101, R199): number, state, holding line when BOUND, order. -/
def slotBytes (t : OrderTable) (n : SlotNo) : List Byte :=
  match t.slot n with
  | .free => []
  | .waiting o => layOut [.fixed (beBytes 1 n.val), .fixed [1], .opt 1 none, .fixed (reportedOrder o)]
  | .bound l o =>
    layOut [.fixed (beBytes 1 n.val), .fixed [2], .opt 1 (some (beBytes 1 (lineNo l))), .fixed (reportedOrder o)]

/-- The data of a READ_ORDERS reply (R101): up to four slots, the counts, the counter and the continuation slot. -/
def readOrdersData (t : OrderTable) (first : SlotNo) : List Byte :=
  let all := t.listed first.val
  let shown := all.take 4
  beBytes 1 shown.length ++ (shown.map (slotBytes t)).flatten
    ++ beBytes 1 (allSlots.countP (fun n => (t.slot n).isWaiting)) ++ beBytes 1 (allSlots.countP (fun n => (t.slot n).isBound))
    ++ beBytes 4 t.counter ++ [slotByte (all.drop 4).head?]

/-- READ_ORDERS at the order table (R101). -/
def ownReadOrders (body : List Byte) (w : Work) : Reply × Work :=
  match parseSlot body with
  | none => (.refused .outOfRange, w)
  | some first => (.ok (readOrdersData w.st.orders first), w)

/-- READ_ORDERS (R101). -/
def execReadOrders (link : Link) (body : List Byte) (s : State) : Host.Outcome State Fault Refusal :=
  request link .readOrders body (ownReadOrders body) s

/-- A slot matches a search (R102): it is WAITING and its site code agrees with the key under the mask. -/
def Slot.matches (key mask : BitVec 24) : Slot → Bool
  | .waiting o => o.copy.site &&& mask == key &&& mask
  | .free | .bound .. => false

/-- The arrival sequence of a slot's order. -/
def Slot.seq (x : Slot) : Nat := (x.order?.map Order.seq).getD 0

/-- The slot of smallest arrival sequence of a list in ascending slot number; the lower number wins a tie (R102). -/
def OrderTable.oldest (t : OrderTable) : List SlotNo → Option SlotNo
  | [] => none
  | n :: ns =>
    match t.oldest ns with
    | none => some n
    | some m => if (t.slot m).seq < (t.slot n).seq then some m else some n

/-- The slots that match a search (R102). -/
def OrderTable.matching (t : OrderTable) (key mask : BitVec 24) : List SlotNo :=
  allSlots.filter (fun n => (t.slot n).matches key mask)

/-- The answer of SEARCH_ORDER (R102, R103). -/
def searchReply (t : OrderTable) (key mask : BitVec 24) : Reply :=
  let ms := t.matching key mask
  match t.oldest ms with
  | none => .accepted noneIndication (beBytes 1 0)
  | some n =>
    match (t.slot n).order? with
    | some o => .ok (beBytes 1 n.val ++ reportedOrder o ++ beBytes 1 ms.length)
    | none => .accepted noneIndication (beBytes 1 0)

/-- SEARCH_ORDER at the order table (R102, R103). -/
def ownSearchOrder (body : List Byte) (w : Work) : Reply × Work :=
  match parseSearch body with
  | none => (.refused .outOfRange, w)
  | some (key, mask) => (searchReply w.st.orders key mask, w)

/-- SEARCH_ORDER (R102). -/
def execSearchOrder (link : Link) (body : List Byte) (s : State) : Host.Outcome State Fault Refusal :=
  request link .searchOrder body (ownSearchOrder body) s

end Sys2Proof.Machine
end

