-- ==== Sys2Proof/Machine/Plans.lean ====
section
/-! DEFINITION. The price plan table's requests (chapter 6): WRITE_PLAN, READ_PLAN; the product settings (R149) and the
device clock's requests and second (R183). -/

namespace Sys2Proof.Machine

/-- The live plan of a number; no tiers is EMPTY (R112). -/
def State.plan (s : State) (n : PlanNo) : List Tier := s.plans[n]

/-- A plan replaced whole (R115). -/
def State.setPlan (s : State) (n : PlanNo) (ts : List Tier) : State := { s with plans := s.plans.set n.val ts n.isLt }

/-- No tier but the last has bound OPEN (R114 check 4). -/
def openOnlyLast : List Tier → Bool
  | [] => true
  | [_] => true
  | t :: ts => t.bound.isSome && openOnlyLast ts

/-- Numbers strictly ascend. -/
def ascending : List Nat → Bool
  | a :: b :: r => decide (a < b) && ascending (b :: r)
  | _ => true

/-- Tiers that pass checks 4 and 5 of R114. -/
def planInOrder (ts : List Tier) : Bool :=
  openOnlyLast ts && ascending (ts.filterMap (fun t => t.bound.map BitVec.toNat))

/-- WRITE_PLAN at the price plan table (R114, R115). -/
def ownWritePlan (body : List Byte) (w : Work) : Reply × Work :=
  match parseWritePlan body with
  | none => (.refused .outOfRange, w)
  | some (n, ts) =>
    if planInOrder ts then (.ok (beBytes 1 n.val ++ beBytes 1 ts.length), w.mapSt (fun s => s.setPlan n ts))
    else (.refused .badPlan, w)

/-- WRITE_PLAN (R114). -/
def execWritePlan (link : Link) (body : List Byte) (s : State) : Host.Outcome State Fault Refusal :=
  request link .writePlan body (ownWritePlan body) s

/-- READ_PLAN at the price plan table (R116). -/
def ownReadPlan (body : List Byte) (w : Work) : Reply × Work :=
  match parsePlanNo body with
  | none => (.refused .outOfRange, w)
  | some n => (.ok (planBytes n.val (w.st.plan n)), w)

/-- READ_PLAN (R116). -/
def execReadPlan (link : Link) (body : List Byte) (s : State) : Host.Outcome State Fault Refusal :=
  request link .readPlan body (ownReadPlan body) s

/-- WRITE_PRODUCT_SETTINGS at the calibration unit (R149). -/
def ownWriteProductSettings (body : List Byte) (w : Work) : Reply × Work :=
  match parseSettings body with
  | none => (.refused .outOfRange, w)
  | some (p, c) =>
    (.ok (settingsBytes c), w.mapSt (fun s => { s with cal := { s.cal with settings := s.cal.settings.set p c } }))

/-- WRITE_PRODUCT_SETTINGS (R149). -/
def execWriteProductSettings (link : Link) (body : List Byte) (s : State) : Host.Outcome State Fault Refusal :=
  request link .writeProductSettings body (ownWriteProductSettings body) s

/-- SET_CLOCK at the restart and clock unit (R183). -/
def ownSetClock (body : List Byte) (w : Work) : Reply × Work :=
  match parseNumber32 body with
  | none => (.refused .outOfRange, w)
  | some t =>
    (.ok (beBytes 4 t), w.mapSt (fun s => { s with restart := { s.restart with time := t, clockValid := true } }))

/-- SET_CLOCK (R183). -/
def execSetClock (link : Link) (body : List Byte) (s : State) : Host.Outcome State Fault Refusal :=
  request link .setClock body (ownSetClock body) s

/-- CLOCK_SECOND (R183): the time increases by one, wrapping to 0, valid or not. It runs in phase RUNNING (R173, R175). -/
def execClockSecond (s : State) : Host.Outcome State Fault Refusal :=
  event (fun w => w.mapSt (fun s =>
    if s.restart.phase = .running then
      { s with restart := { s.restart with time := (s.restart.time + 1) % 4294967296 } }
    else s)) s

end Sys2Proof.Machine
end

