-- ==== Sys2Proof/Machine/Reports.lean ====
section
/-! DEFINITION. The requests that report the lines and the calibration: READ_LINE, READ_STATUS (R74), READ_TOTALS (R22),
READ_RECORD (R169), READ_CHECKSUM (R170). -/

namespace Sys2Proof.Machine

/-- A link's lost-notice count given in a reply and set to 0 (R192). -/
def State.giveLost (s : State) (link : Link) : State := s.setFront link { s.front link with lost := 0 }

/-- The delivery record has been filled by an ARM or ARM_TEST (R42). -/
def Delivery.filled (d : Delivery) : Bool := d.mode.isSome

/-- A field that is absent from an empty delivery record. -/
def Delivery.opt (d : Delivery) (width : Nat) (v : List Byte) : Item := .opt width (if d.filled then some v else none)

/-- The items of READ_LINE in the order of R74, R94, R22 and R39, and the lost-notice count (R192). The running VCF takes the
4 bytes of the ticket's VCF (log 18). -/
def readLineItems (ln : Line) (lost : Nat) : List Item :=
  let d := ln.delivery
  [.fixed [lineStateCode ln.state], .fixed [modeCode d.mode], .fixed [slotByte d.slot],
   .opt 4 (d.latched.order.map (fun o => beBytes 4 o.orderId.toNat)), d.opt 1 (beBytes 1 (productNo d.product)),
   .opt 1 (d.preset.kind.map (fun k => [presetKindCode k])), .opt 4 (d.preset.amount.map (beBytes 4)),
   .fixed (beBytes 4 d.preset.loadedTop), .fixed (beBytes 3 d.preset.stagedTop),
   .fixed (beBytes 5 d.preset.stop), .fixed (beBytes 5 d.preset.slow),
   .fixed (beBytes 5 d.preset.stagedStop), .fixed (beBytes 5 d.preset.stagedSlow), .fixed [stageCode d.preset.stage],
   .fixed [pauseCode d.pauseCause], .fixed [haltCode d.haltCause], .fixed [endCode d.endCause], .fixed [flagsByte d.flags],
   .opt 4 (if ln.state = .recording then d.ticketNumber.map (beBytes 4) else none),
   .opt 4 (d.armTime.map (beBytes 4)), d.opt 8 (beBytes 4 d.identity.counter ++ checkBytes d.identity.checksum),
   .fixed [bandCode d.counts.band], .fixed (beBytes 8 d.counts.g), .fixed (beBytes 1 d.counts.framePos),
   .fixed (beBytes 1 d.counts.strikes), .fixed (beBytes 1 d.counts.zeroRun), .fixed (beBytes 2 d.counts.creep),
   .opt 2 (ln.temp.lastRaw.map (signedBytes 2)), .opt 3 (ln.temp.lastCorrected.map (signedBytes 3)),
   .fixed (flagByte ln.temp.substituted), .opt 2 (ln.temp.lastValid.map (signedBytes 2)),
   .fixed (signedBytes 9 d.corr.w), .fixed (beBytes 8 d.counts.gs), .fixed (beBytes 8 d.counts.gp),
   .opt 2 (d.corr.lastValid.map (signedBytes 2)), .opt 2 (d.corr.runAvg.map (signedBytes 2)),
   .fixed (beBytes 4 d.corr.runVcf), .fixed (flagByte d.flags.tempSubst), .fixed (flagByte d.flags.probeFault),
   .fixed (beBytes 3 d.runningBilled), .fixed (beBytes 1 lost)]

/-- READ_LINE at the line's controller (R74), on the link it came on. -/
def ownReadLine (link : Link) (body : List Byte) (w : Work) : Reply × Work :=
  match parseLine body with
  | none => (.refused .outOfRange, w)
  | some l =>
    (.ok (layOut (readLineItems (w.st.line l) (w.st.front link).lost)),
     w.mapSt (fun s => s.giveLost link))

/-- READ_LINE (R74). -/
def execReadLine (link : Link) (body : List Byte) (s : State) : Host.Outcome State Fault Refusal :=
  request link .readLine body (ownReadLine link body) s

/-- A line in the reply to READ_STATUS (R74): state, mode, slot, the three causes, gross_cL. -/
def statusBytes (ln : Line) : List Byte :=
  [lineStateCode ln.state, modeCode ln.delivery.mode, slotByte ln.delivery.slot, pauseCode ln.delivery.pauseCause,
   haltCode ln.delivery.haltCause, endCode ln.delivery.endCause] ++ beBytes 6 ln.delivery.grossCl

/-- READ_STATUS at the controllers and the restart unit (R74, R182, R183, R192). The clock's valid flag is sent as a flag that is set
or clear, 0x01 for valid, and not as the named values of R171 in their order (DESIGN CHOICE, log 43, unsafe). -/
def ownReadStatus (link : Link) (body : List Byte) (w : Work) : Reply × Work :=
  match parseEmpty body with
  | none => (.refused .outOfRange, w)
  | some _ =>
    (.ok (statusBytes w.st.lines.a ++ statusBytes w.st.lines.b ++ beBytes 2 w.st.restart.interruptions
        ++ beBytes 4 w.st.restart.time ++ flagByte w.st.restart.clockValid ++ beBytes 1 (w.st.front link).lost),
     w.mapSt (fun s => s.giveLost link))

/-- READ_STATUS (R74). -/
def execReadStatus (link : Link) (body : List Byte) (s : State) : Host.Outcome State Fault Refusal :=
  request link .readStatus body (ownReadStatus link body) s

/-- READ_TOTALS at the metering lines and the restart unit (R22, R182). -/
def ownReadTotals (body : List Byte) (w : Work) : Reply × Work :=
  match parseEmpty body with
  | none => (.refused .outOfRange, w)
  | some _ =>
    (.ok (beBytes 7 w.st.lines.a.totalizer ++ beBytes 7 w.st.lines.a.unticketed ++ beBytes 7 w.st.lines.b.totalizer
        ++ beBytes 7 w.st.lines.b.unticketed ++ beBytes 2 w.st.restart.interruptions), w)

/-- READ_TOTALS (R22). -/
def execReadTotals (link : Link) (body : List Byte) (s : State) : Host.Outcome State Fault Refusal :=
  request link .readTotals body (ownReadTotals body) s

/-- QUEUED 0, IN_FLIGHT 1 (R148, R199). -/
def statusCode : WriteStatus → Byte
  | .queued => 0
  | .inFlight => 1

/-- The data of a READ_RECORD reply (R169). -/
def readRecordData (s : State) (r : RecordId) : List Byte :=
  let x := s.cal.shadows.get r
  let pend : Option WriteStatus := match s.cal.pendingWrite with
    | some (i, st) => if i = r then some st else none
    | none => none
  layOut [.fixed (beBytes 1 (recordNo r)), .fixed [if x.1 then 0 else 1],
    .opt (contentLength r) (if x.1 then some (contentBytes x.2) else none), .fixed (checkBytes (s.cal.refs.get r)),
    .fixed (flagByte pend.isSome), .opt 1 (pend.map (fun st => [statusCode st])),
    .fixed (flagByte (s.lines.a.latches .a r)), .fixed (flagByte (s.lines.b.latches .b r))]

/-- READ_RECORD at the calibration unit (R169). -/
def ownReadRecord (body : List Byte) (w : Work) : Reply × Work :=
  match parseRecordId body with
  | none => (.refused .outOfRange, w)
  | some r => (.ok (readRecordData w.st r), w)

/-- READ_RECORD (R169). -/
def execReadRecord (link : Link) (body : List Byte) (s : State) : Host.Outcome State Fault Refusal :=
  request link .readRecord body (ownReadRecord body) s

/-- The data of a READ_CHECKSUM reply (R170). -/
def readChecksumData (s : State) : List Byte :=
  layOut [.fixed (checkBytes s.store.checksum), .fixed [if s.cal.consistent then 0 else 1],
    .fixed (beBytes 4 s.store.eventCounter),
    .opt 2 (s.cal.pendingWrite.map (fun x => beBytes 1 (recordNo x.1) ++ [statusCode x.2])),
    .opt 1 (s.cal.lastSweep.map (fun ok => [if ok then 0 else 1])),
    .fixed ((allRecords.map (fun r => checkBytes (s.cal.refs.get r))).flatten),
    .fixed (beBytes 4 s.store.auditOldest), .fixed (beBytes 1 s.store.audit.length)]

/-- READ_CHECKSUM at the calibration unit (R170). -/
def ownReadChecksum (body : List Byte) (w : Work) : Reply × Work :=
  match parseEmpty body with
  | none => (.refused .outOfRange, w)
  | some _ => (.ok (readChecksumData w.st), w)

/-- READ_CHECKSUM (R170). -/
def execReadChecksum (link : Link) (body : List Byte) (s : State) : Host.Outcome State Fault Refusal :=
  request link .readChecksum body (ownReadChecksum body) s

end Sys2Proof.Machine
end

