-- ==== Sys2Proof/Machine/Tickets.lean ====
section
/-! DEFINITION. The journal's requests (R134, R135), the damage that develops in a stored ticket (R140), and the requests
that read the fault log and the audit trail or clear the log (R161, R203). -/

namespace Sys2Proof.Machine

/-- The entry state on the link (R129, R199; log 17). -/
def entryStateCode : EntryState → Byte
  | .transferred => 0
  | .damaged => 1
  | .closed => 2

/-- The record of the entry at a position. -/
def State.entryRecord (s : State) (i : Nat) : List Byte := (s.store.places[s.journal.header.place i]).getD []

/-- The first position at or after one whose entry is not TRANSFERRED (R129: TRANSFERRED entries come first). -/
def JournalHeader.openFrom (h : JournalHeader) (i : Nat) : Option Nat :=
  if max i h.transferred < h.count then some (max i h.transferred) else none

/-- The data of a READ_TICKET reply for the entry at a position (R134). The check result is that of the record as it stands,
for a DAMAGED entry too (log 39). -/
def readTicketData (s : State) (i : Nat) : List Byte :=
  let h := s.journal.header
  let record := s.entryRecord i
  layOut ([.fixed (padTo 138 record), .fixed (beBytes 4 (h.oldestNumber + i)),
    .fixed [entryStateCode (s.journal.entryState i)], .fixed [if ticketGood record then 0 else 1],
    .opt 4 ((h.openFrom (i + 1)).map (fun j => beBytes 4 (h.oldestNumber + j)))] ++ summaryItems s.journal)

/-- The position READ_TICKET names (R134): of a number, or of the oldest entry that is not TRANSFERRED. -/
def JournalHeader.named (h : JournalHeader) : Option Nat → Option Nat
  | some n => h.position? n
  | none => h.openFrom 0

/-- READ_TICKET at the journal (R134). -/
def ownReadTicket (body : List Byte) (w : Work) : Reply × Work :=
  match parseNumberOrKeyword body with
  | none => (.refused .outOfRange, w)
  | some which =>
    match w.st.journal.header.named which with
    | none => (.refused .noSuchTicket, w)
    | some i => (.ok (readTicketData w.st i), w)

/-- READ_TICKET (R134). -/
def execReadTicket (link : Link) (body : List Byte) (s : State) : Host.Outcome State Fault Refusal :=
  request link .readTicket body (ownReadTicket body) s

/-- The transferred count after an accepted ACK_TICKETS of `n` (R135). -/
def JournalHeader.acked (h : JournalHeader) (n : Nat) : Nat :=
  if n = 0 ∨ n < h.oldestNumber + h.transferred ∨ h.transferred = h.count then h.transferred
  else n - h.oldestNumber + 1

/-- The number of ACK_TICKETS is beyond the journal (R135): above the newest number, or above 0 with no entry. -/
def JournalHeader.beyond (h : JournalHeader) (n : Nat) : Bool :=
  match h.newest? with
  | some m => m < n
  | none => 0 < n

/-- ACK_TICKETS at the journal (R135). -/
def ownAckTickets (body : List Byte) (w : Work) : Reply × Work :=
  match parseNumber32 body with
  | none => (.refused .outOfRange, w)
  | some n =>
    let h := w.st.journal.header
    if h.beyond n then (.refused .ackBeyond, w)
    else
      let j := { w.st.journal with header := { h with transferred := h.acked n } }
      (.ok (layOut (.fixed (beBytes 2 (h.acked n - h.transferred)) :: summaryItems j)),
       w.mapSt (fun s => { s with journal := j }))

/-- ACK_TICKETS (R135). -/
def execAckTickets (link : Link) (body : List Byte) (s : State) : Host.Outcome State Fault Refusal :=
  request link .ackTickets body (ownAckTickets body) s

/-- STORED_TICKET_DAMAGE (R140): a stored ticket record's bytes change. A place that holds no record has none to damage. -/
def execStoredTicketDamage (place : Fin 256) (record : List Byte) (s : State) : Host.Outcome State Fault Refusal :=
  event (fun w => w.mapSt (fun s =>
    match s.store.places[place] with
    | some _ => { s with store := { s.store with places := s.store.places.set place.val (some record) place.isLt } }
    | none => s)) s

/-! ## Fault log -/

/-- A ring entry as READ_FAULT_LOG lists it (R203): the entry with its stored (0) or unstored (1) mark. -/
def ringEntryBytes (e : RingEntry) : List Byte :=
  layOut (faultItems e.entry ++ [.fixed [if e.stored then 0 else 1]])

/-- The data of a READ_FAULT_LOG reply (R203). -/
def readFaultLogData (f : FaultLog) (start : Nat) : List Byte :=
  let shown := (f.ring.drop start).take 16
  beBytes 1 shown.length ++ (shown.map ringEntryBytes).flatten ++ beBytes 1 f.ring.length
    ++ beBytes 1 f.overflow.length ++ (f.overflow.map (fun e => layOut (faultItems e))).flatten ++ beBytes 1 f.lost

/-- READ_FAULT_LOG at the fault log (R203). -/
def ownReadFaultLog (body : List Byte) (w : Work) : Reply × Work :=
  match parsePosition body with
  | none => (.refused .outOfRange, w)
  | some p => (.ok (readFaultLogData w.st.faultLog p), w)

/-- READ_FAULT_LOG (R203). -/
def execReadFaultLog (link : Link) (body : List Byte) (s : State) : Host.Outcome State Fault Refusal :=
  request link .readFaultLog body (ownReadFaultLog body) s

/-- The log emptied (R203): ring, overflow and lost-entry count, write wanted set; then a unit is offered when none is
outstanding. -/
def State.clearFaults (s : State) : State :=
  State.placeFree { s with faultLog := { s.faultLog with ring := [], overflow := [], lost := 0, wanted := true } }

/-- CLEAR_FAULT_LOG at the fault log (R150, R203). -/
def ownClearFaultLog (body : List Byte) (w : Work) : Reply × Work :=
  if !w.st.inputs.inspectionOpen then (.refused .inspectionClosed, w)
  else
    match parseEmpty body with
    | none => (.refused .outOfRange, w)
    | some _ =>
      (.ok (beBytes 1 (w.st.faultLog.ring.length + w.st.faultLog.overflow.length)), w.mapSt State.clearFaults)

/-- CLEAR_FAULT_LOG (R203). -/
def execClearFaultLog (link : Link) (body : List Byte) (s : State) : Host.Outcome State Fault Refusal :=
  request link .clearFaultLog body (ownClearFaultLog body) s

/-! ## Audit trail -/

/-- What READ_AUDIT finds (R161). -/
inductive AuditAnswer
  | none
  | entry (i : Nat)
  | lost
deriving DecidableEq, Repr

/-- READ_AUDIT's answer for a number, in order of age from the oldest, round the wrap from 4,294,967,295 to 1 (R161). No entry has
left a trail of fewer than 64 (R158), so no number is older than its oldest, and a number that is not held is newer. Of the
numbers that a full trail does not hold, the half that follows the newest is newer and the half that leads up to the oldest is
older; on an empty trail a number answers NONE (log 21). -/
def Store.auditFind (st : Store) (n : Nat) : AuditAnswer :=
  let c := st.audit.length
  let d := (n + max32 - st.auditOldest) % max32
  if c = 0 then .none
  else if d < c then .entry d
  else if c < 64 then .none
  else if d - c < (max32 - c) / 2 then .none
  else .lost

/-- A record's contents of its kind with their presence bit. -/
def contentItem (r : RecordId) (c : Option CalRecord) : Item := .opt (contentLength r) (c.map contentBytes)

/-- An audit entry's kind and fields (R159, R160; CAL_CHANGE 0, TEST_RUN 1). -/
def auditItems : AuditEntry → List Item
  | .calChange counter time old new =>
    [.fixed [0], .fixed (beBytes 4 counter), .opt 4 (time.map (beBytes 4)), .fixed (beBytes 1 (recordNo new.id)),
     contentItem new.id old, .fixed (contentBytes new)]
  | .testRun r => .fixed [1] :: testRunItems r

/-- The data of a READ_AUDIT reply for the entry at a position (R161). -/
def readAuditData (st : Store) (i : Nat) : List Byte :=
  match st.audit.drop i with
  | e :: more =>
    layOut (.fixed (beBytes 4 (auditAfter st.auditOldest i)) :: auditItems e
      ++ [.opt 4 (if more.isEmpty then none else some (beBytes 4 (auditAfter st.auditOldest (i + 1)))),
          .fixed (beBytes 4 st.auditOldest), .fixed (beBytes 1 st.audit.length), .fixed (beBytes 4 st.eventCounter)])
  | [] => []

/-- The answer of READ_AUDIT (R161). -/
def auditReply (st : Store) (which : Option Nat) : Reply :=
  match which with
  | none => if st.audit.isEmpty then .accepted noneIndication [] else .ok (readAuditData st 0)
  | some n =>
    match st.auditFind n with
    | .none => .accepted noneIndication []
    | .entry i => .ok (readAuditData st i)
    | .lost => .accepted entriesLost (readAuditData st 0)

/-- READ_AUDIT at the calibration unit (R161). -/
def ownReadAudit (body : List Byte) (w : Work) : Reply × Work :=
  match parseNumberOrKeyword body with
  | none => (.refused .outOfRange, w)
  | some which => (auditReply w.st.store which, w)

/-- READ_AUDIT (R161). -/
def execReadAudit (link : Link) (body : List Byte) (s : State) : Host.Outcome State Fault Refusal :=
  request link .readAudit body (ownReadAudit body) s

end Sys2Proof.Machine
end

