-- ==== Sys2Proof/Machine/Links.lean ====
section
/-! DEFINITION. The link fronts' own events (chapter 10): a byte received (R187), a frame of an unknown kind (R189), the
ways a partial frame is lost (R185, R187), and the end of a transmission (R189, R191). -/

namespace Sys2Proof.Machine

/-- The block that takes a request of each kind (R188). -/
def owner (k : RequestKind) (link : Link) (body : List Byte) : Work → Reply × Work :=
  match k with
  | .loadOrder => ownLoadOrder body
  | .withdrawOrder => ownWithdrawOrder body
  | .readOrders => ownReadOrders body
  | .writePlan => ownWritePlan body
  | .readPlan => ownReadPlan body
  | .writeProductSettings => ownWriteProductSettings body
  | .setClock => ownSetClock body
  | .readTicket => ownReadTicket body
  | .ackTickets => ownAckTickets body
  | .stopLine => ownStopLine body
  | .readStatus => ownReadStatus link body
  | .readFaultLog => ownReadFaultLog body
  | .readTotals => ownReadTotals body
  | .readAudit => ownReadAudit body
  | .searchOrder => ownSearchOrder body
  | .arm => ownArm body
  | .start => ownStart body
  | .pause => ownPause body
  | .resume => ownResume body
  | .add => ownAdd body
  | .endDelivery => ownEndDelivery body
  | .disarm => ownDisarm body
  | .readLine => ownReadLine link body
  | .readRecord => ownReadRecord body
  | .writeRecord => ownWriteRecord body
  | .armTest => ownArmTest body
  | .clearFaultLog => ownClearFaultLog body
  | .readChecksum => ownReadChecksum body

/-- A complete frame of a kind that is no request kind (R189): discarded outside phase RUNNING (R194), refused LINK_BUSY
while a request is pending, and UNKNOWN_REQUEST otherwise. -/
def unknownFrame (link : Link) (kind : Byte) (s : State) : State :=
  let s := s.toHunt link
  if !(s.restart.phase == .running) then s
  else if (s.front link).request.isSome then s.judge link kind .linkBusy
  else s.judge link kind .unknownRequest

/-- A complete frame whose check agrees, of any kind (R189). -/
def takeFrame (link : Link) (kind : Byte) (body : List Byte) (s : State) : Host.Outcome State Fault Refusal :=
  match requestOf? kind with
  | some k => request link k body (owner k link body) s
  | none => .next (unknownFrame link kind s).drive

/-- UNKNOWN_REQUEST (R189). A kind that is a request kind is judged as that request (log 31). -/
def execUnknownRequest (link : Link) (kind : Byte) (body : List Byte) (s : State) : Host.Outcome State Fault Refusal :=
  takeFrame link kind body s

/-- FRAME_DISCARDED (R187): nothing in the part records it, and the receiver is in HUNT. -/
def execFrameDiscarded (link : Link) (s : State) : Host.Outcome State Fault Refusal :=
  event (fun w => w.mapSt (fun s => s.toHunt link)) s

/-- LINE_ERROR (R185): a partial frame is discarded and the receiver returns to HUNT; in HUNT it has no effect. -/
def execLineError (link : Link) (s : State) : Host.Outcome State Fault Refusal :=
  event (fun w => w.mapSt (fun s => s.toHunt link)) s

/-- RECEIVE_GAP_TIMEOUT (R187): as a line error, for a gap of more than 20 ms within a frame. -/
def execReceiveGapTimeout (link : Link) (s : State) : Host.Outcome State Fault Refusal :=
  event (fun w => w.mapSt (fun s => s.toHunt link)) s

/-- A link front whose frame has gone (R189, R191): the pending request ends with its reply and the next waiting frame
starts. -/
def LinkFront.transmitted (f : LinkFront) : LinkFront :=
  match f.sending with
  | none => f
  | some x => { f with sending := none, request := if x.tag = FrameTag.reply then none else f.request }.startNext

/-- FRAME_TRANSMITTED (R191). Nothing is transmitted outside phase RUNNING (R194). -/
def execFrameTransmitted (link : Link) (s : State) : Host.Outcome State Fault Refusal :=
  event (fun w => w.mapSt (fun s =>
    if s.restart.phase = .running then s.setFront link (s.front link).transmitted else s)) s

/-- What a byte does to the receiver (R187): the new receive state, or the kind and body of a frame that is complete and
agrees with its check. -/
def Receiver.take (rx : Receiver) (b : Byte) : Receiver × Option (Byte × List Byte) :=
  match rx with
  | .hunt => (if b = 0xC3 then .length else .hunt, none)
  | .length => (if 1 ≤ b.toNat ∧ b.toNat ≤ 249 then Receiver.kind b.toNat else .hunt, none)
  | .kind len => (if len ≤ 1 then Receiver.check b [] none else Receiver.body len b [], none)
  | .body len k got => (if len ≤ got.length + 2 then .check k (got ++ [b]) none else .body len k (got ++ [b]), none)
  | .check k bs none => (.check k bs (some b), none)
  | .check k bs (some b1) =>
    (.hunt, if beBytes 2 (crc16 (frameCovered k bs)).toNat = [b1, b] then some (k, bs) else none)

/-- The receiver of a link front set. -/
def State.setRx (s : State) (link : Link) (rx : Receiver) : State := s.setFront link { s.front link with rx := rx }

/-- LINK_BYTE_RECEIVED (R187). The byte that completes a frame has it judged (R189). -/
def execLinkByteReceived (link : Link) (byte : Byte) (s : State) : Host.Outcome State Fault Refusal :=
  match (s.front link).rx.take byte with
  | (rx, none) => event (fun w => w.mapSt (fun s => s.setRx link rx)) s
  | (rx, some (kind, body)) => takeFrame link kind body (s.setRx link rx)

end Sys2Proof.Machine
end

