-- ==== Sys2Proof/Machine/RestartEvents.lean ====
section
/-! DEFINITION. The restart and clock unit (chapter 9): the power-fail warning and RESET (R173, R174, R176), the save
(R144), the start-up sequence up to the hand-over of its units (R175 steps 1 to 5, R177 to R181) and its end (steps 6 to
8). -/

namespace Sys2Proof.Machine

/-! ## The warning and the save -/

/-- A line's snapshot (R172). -/
def Line.snapshot (ln : Line) : Snapshot := ⟨ln.state, ln.delivery, ln.totalizer, ln.unticketed, false⟩

/-- A line whose timers have stopped (R173 step 2). -/
def Line.stopTimers (ln : Line) : Line := { ln with windowRunning := false, quietRunning := false, capRunning := false }

/-- A link front at the warning (R194): nothing waits, nothing is transmitted, nothing is pending. -/
def LinkFront.cut (f : LinkFront) : LinkFront := { f with request := none, queue := [], sending := none }

/-- The three link fronts changed alike. -/
def PerLink.map {α : Type} (f : α → α) (x : PerLink α) : PerLink α := ⟨f x.cab, f x.reel, f x.metrology⟩

/-- The restart path up to the save (R173 steps 1 to 3, R176). In RUNNING the held snapshots are taken from the lines, in
STARTING they are as recovery has left them. -/
def State.restartPath (c : RestartCause) (s : State) : State :=
  { s with
    restartHold := true
    lines := ⟨s.lines.a.stopTimers, s.lines.b.stopTimers⟩
    cal := { s.cal with sweepRunning := false }
    links := s.links.map LinkFront.cut
    engine := { s.engine with state := .saving, queue := [] }
    restart := { s.restart with
      phase := .saving
      cause := c
      held := if s.restart.phase = .running then ⟨s.lines.a.snapshot, s.lines.b.snapshot⟩ else s.restart.held } }

/-- A power-fail warning or RESET assertion taken (R173, R174, R176). -/
def State.takeRestart (c : RestartCause) (s : State) : State :=
  match s.restart.phase with
  | .running | .starting => s.restartPath c
  | .saving | .stopped => s

/-- POWER_FAIL_WARNING (R173). -/
def execPowerFailWarning (s : State) : Host.Outcome State Fault Refusal :=
  event (fun w => w.mapSt (fun s => State.takeRestart .power { s with inputs := { s.inputs with powerFail := true } })) s

/-- RESET_ASSERTED (R173). -/
def execResetAsserted (s : State) : Host.Outcome State Fault Refusal :=
  event (fun w => w.mapSt (fun s => State.takeRestart .reset { s with inputs := { s.inputs with reset := true } })) s

/-- POWER_FAIL_WARNING_CLEARED (R174): the release stops no save. -/
def execPowerFailWarningCleared (s : State) : Host.Outcome State Fault Refusal :=
  event (fun w => w.mapSt (fun s => { s with inputs := { s.inputs with powerFail := false } })) s

/-- RESET_RELEASED (R174). -/
def execResetReleased (s : State) : Host.Outcome State Fault Refusal :=
  event (fun w => w.mapSt (fun s => { s with inputs := { s.inputs with reset := false } })) s

/-- The restart save (R144, R173 step 4): snapshots, cause, journal header, next number and damaged marks, in one write. -/
def State.writeSave (s : State) : State :=
  { s with
    store := { s.store with
      snapshots := s.restart.held
      saveCause := s.restart.cause
      header := s.journal.header
      nextNumber := s.journal.nextNumber
      marks := s.journal.marks }
    engine := { s.engine with state := .stopped }
    restart := { s.restart with phase := .stopped } }

/-- RESTART_SAVE_WRITTEN (R173 steps 4 and 5): it can come when the unit in flight has finished (R144, log 4). -/
def execRestartSaveWritten (s : State) : Host.Outcome State Fault Refusal :=
  event (fun w => w.mapSt (fun s =>
    if s.restart.phase = .saving ∧ s.engine.inFlight = none then s.writeSave else s)) s

/-! ## The start-up sequence, steps 1 to 3 -/

/-- The start of the sequence: phase STARTING, the engine IDLE and empty (R137), the fault log loaded from the store
(R200). -/
def State.beginStartUp (s : State) : State :=
  { s with
    engine := ⟨.idle, none, []⟩
    faultLog := ⟨s.store.ring.map (fun e => ⟨e, true, false⟩), [], 0, none, false⟩
    restart := { s.restart with phase := .starting, tickets := 0, testRuns := 0 } }

/-- A line with the totals of its snapshot (R21). -/
def Line.restoreTotals (ln : Line) (x : Snapshot) : Line := { ln with totalizer := x.totalizer, unticketed := x.unticketed }

/-- The stored save loaded (R175 step 2, R145). -/
def State.loadSave (s : State) : State :=
  { s with
    lines := ⟨s.lines.a.restoreTotals s.store.snapshots.a, s.lines.b.restoreTotals s.store.snapshots.b⟩
    journal := ⟨s.store.header, s.store.marks, s.store.nextNumber, 0, 0⟩
    restart := { s.restart with held := s.store.snapshots, cause := s.store.saveCause } }

/-- The damaged mark of a place set. -/
def setMark (marks : BitVec 256) (place : Fin 256) : BitVec 256 := marks ||| BitVec.ofNat 256 (2 ^ place.val)

/-- The start-up check of the entry at a position (R145). -/
def Work.checkEntry (w : Work) (i : Nat) : Work :=
  let h := w.st.journal.header
  if ticketGood (w.st.entryRecord i) then w
  else
    (w.mapSt (fun s => { s with journal := { s.journal with marks := setMark s.journal.marks (h.place i) } })).fault
      .journalDamaged none (BitVec.ofNat 32 (h.oldestNumber + i))

/-- The start-up check of every entry, oldest first (R175 step 3, R145). -/
def Work.checkJournal (w : Work) : Work := (List.range w.st.journal.header.count).foldl Work.checkEntry w

/-- The damaged marks found by the check: the places of the entries whose code fails (R145). -/
def State.foundMarks (s : State) : BitVec 256 :=
  (List.range s.journal.header.count).foldl
    (fun m i => if ticketGood (s.entryRecord i) then m else setMark m (s.journal.header.place i)) 0

/-! ## Step 4: recovery -/

/-- A held snapshot. -/
def State.heldOf (s : State) (l : LineId) : Snapshot := s.restart.held.get l

/-- The held snapshot of a line replaced. -/
def State.setHeld (s : State) (l : LineId) (x : Snapshot) : State :=
  { s with restart := { s.restart with held := s.restart.held.set l x } }

/-- The ticket number of a snapshot whose recovery appends it as it was computed (R179): a SALE in RECORDING whose number
the journal does not hold. -/
def State.unheldNumber (s : State) (l : LineId) : Option Nat :=
  let x := s.heldOf l
  if x.state = .recording ∧ x.delivery.mode = some .sale then
    x.delivery.ticketNumber.bind (fun n => if s.journal.holdsNumber n then none else some n)
  else none

/-- The next ticket number raised above the unheld numbers of RECORDING snapshots (R145). -/
def State.raiseNext (s : State) : State :=
  let above := fun (l : LineId) => ((s.unheldNumber l).map (· + 1)).getD 0
  { s with journal := { s.journal with nextNumber := max s.journal.nextNumber (max (above .a) (above .b)) } }

/-- A recovery append handed over and counted (R177; the unit carries the next number as it stands, log 23). -/
def State.handAppend (s : State) (l : LineId) (number : Nat) (ticket : List Byte) : State :=
  State.hand { s with
    journal := { s.journal with pendingRecovery := s.journal.pendingRecovery + 1 }
    restart := { s.restart with tickets := s.restart.tickets + 1 } }
    (.journalAppend l true number s.journal.nextNumber ticket)

/-- A recovered test record handed over and counted (R177). -/
def State.handTest (s : State) (l : LineId) (run : TestRun) : State :=
  State.hand { s with restart := { s.restart with testRuns := s.restart.testRuns + 1 } } (.testRecord l true run)

/-- The delivery of a RECORDING snapshot with INTERRUPTED added to its ticket (R179). -/
def Delivery.interruptSale (d : Delivery) : Delivery :=
  { d with ticket := d.ticket.map interruptTicket, flags := { d.flags with interrupted := true } }

/-- The recovery of a SALE snapshot in RECORDING (R179). -/
def State.recoverRecorded (l : LineId) (s : State) : State :=
  match s.unheldNumber l with
  | none => s
  | some n =>
    let x := s.heldOf l
    let d := x.delivery.interruptSale
    (s.setHeld l { x with delivery := d }).handAppend l n (d.ticket.getD [])

/-- The recovery of the RECORDING SALE snapshots, in ascending ticket number (R177). -/
def State.recoverRecordedSales (s : State) : State :=
  match s.unheldNumber .a, s.unheldNumber .b with
  | some na, some nb =>
    if nb < na then (s.recoverRecorded .b).recoverRecorded .a else (s.recoverRecorded .a).recoverRecorded .b
  | _, _ => (s.recoverRecorded .a).recoverRecorded .b

/-- A delivery recovered from ARMED through SETTLING, before its ticket or entry (R178, R180): the recovery sample, the
close totalizer of the snapshot, no end time. -/
def Snapshot.weighed (x : Snapshot) : Delivery := { x.delivery.recoverySample with closeTot := x.totalizer, endTime := none }

/-- A SALE finished by recovery (R178). -/
def Snapshot.soldDelivery (x : Snapshot) (l : LineId) (c : RestartCause) (n : Nat) : Delivery :=
  let d := x.weighed
  Delivery.finishSale l { d with
    ticketNumber := some n
    endCause := some (restartEndCause c)
    flags := { d.flags with interrupted := true } }

/-- A snapshot holds an open delivery of a mode with G > 0 (R177). -/
def Snapshot.isOpenWith (x : Snapshot) (m : Mode) : Bool :=
  x.state.isOpen && x.delivery.mode == some m && decide (0 < x.delivery.counts.g)

/-- The recovery of an open SALE snapshot with G > 0 (R178). -/
def State.recoverOpenSale (l : LineId) (s : State) : State :=
  let x := s.heldOf l
  if x.isOpenWith .sale then
    let n := s.journal.nextNumber
    let d := x.soldDelivery l s.restart.cause n
    let s := { s with journal := { s.journal with nextNumber := n + 1 } }
    (s.setHeld l { x with state := .recording, delivery := d, written := false }).handAppend l n (d.ticket.getD [])
  else s

/-- The recovery of a TEST snapshot (R180). -/
def State.recoverTest (l : LineId) (s : State) : State :=
  let x := s.heldOf l
  if x.isOpenWith .test then
    let d := Delivery.finishTest l true x.weighed
    match d.testRun with
    | some r => (s.setHeld l { x with state := .recording, delivery := d, written := false }).handTest l r
    | none => s
  else if x.state = .recording ∧ x.delivery.mode = some .test ∧ x.written = false then
    match x.delivery.testRun with
    | some r =>
      let r := { r with interrupted := true }
      (s.setHeld l { x with delivery := { x.delivery with testRun := some r } }).handTest l r
    | none => s
  else s

/-- The recovery of both held snapshots in the order of R177. -/
def State.recover (s : State) : State :=
  let s := s.raiseNext.recoverRecordedSales
  let s := (s.recoverOpenSale .a).recoverOpenSale .b
  (s.recoverTest .a).recoverTest .b

/-- The detail of a POWER_INTERRUPTED or RESET_INTERRUPTED entry (R181). -/
def Snapshot.interruptedDetail (x : Snapshot) : Nat :=
  if x.delivery.mode = some .sale ∧ 0 < x.delivery.counts.g then x.delivery.ticketNumber.getD 0 else 0

/-- The fault code of R181. -/
def interruptedCode : RestartCause → FaultCode
  | .power => .powerInterrupted
  | .reset => .resetInterrupted

/-- The entry of a line whose held snapshot holds a delivery (R181; made when the recovery units are handed over, log
25). -/
def Work.interruptedEntry (l : LineId) (w : Work) : Work :=
  let x := w.st.heldOf l
  if x.state.holds then
    w.fault (interruptedCode w.st.restart.cause) (some l) (BitVec.ofNat 32 x.interruptedDetail)
  else w

/-! ## Step 5 and the commands -/

/-- The interruption counter increased and the restart update handed over (R175 step 5). -/
def State.countInterruption (s : State) (found : BitVec 256) : State :=
  let n := bump 65535 s.store.interruptions
  State.hand { s with restart := { s.restart with interruptions := n } } (.restartUpdate n found)

/-- Steps 1 to 5 of the start-up sequence (R175). -/
def Work.startUp (w : Work) : Work :=
  let w := ((w.mapSt State.beginStartUp).loadAll.mapSt State.loadSave)
  let found := w.st.foundMarks
  let w := w.checkJournal.mapSt State.recover
  ((w.interruptedEntry .a).interruptedEntry .b).mapSt (fun s => s.countInterruption found)

/-- Start-up can begin (R174): phase STOPPED with neither the warning nor RESET asserted. -/
def State.canStart (s : State) : Bool := s.restart.phase == .stopped && !s.inputs.powerFail && !s.inputs.reset

/-- START_UP_SEQUENCE (R175). -/
def execStartUpSequence (s : State) : Host.Outcome State Fault Refusal :=
  event (fun w => if w.st.canStart then w.startUp else w) s

/-! ## Steps 6 to 8 -/

/-- Every unit handed over in steps 4 and 5 has completed (R175 step 5). -/
def Engine.onlyFaultLog (e : Engine) : Bool :=
  e.queue.all WriteUnit.isFaultLog && e.inFlight.all (fun x => x.unit.isFaultLog)

/-- A line at the end of start-up (R40, R175 step 6). -/
def State.restartedLine (s : State) (l : LineId) : Line :=
  freshLine (if s.lineSound l then .idle else .unverified) (s.line l).totalizer (s.line l).unticketed

/-- The fault log at its after-restart values (R200): the ring kept, with what start-up has put in it; overflow empty, nothing
lost, no write outstanding or wanted (log 22). -/
def FaultLog.settled (f : FaultLog) : FaultLog := { f with overflow := [], lost := 0, outstanding := none, wanted := false }

/-- Every item of every block at its after-restart value (R175 step 6, R95, R99, R126, R127, R148, R200). -/
def State.settleBlocks (s : State) : State :=
  { s with
    lines := ⟨s.restartedLine .a, s.restartedLine .b⟩
    orders := ⟨Vector.replicate 24 .free, 0⟩
    plans := Vector.replicate 8 []
    journal := { s.journal with reservations := 0, pendingRecovery := 0 }
    cal := { s.cal with
      pendingWrite := none, lastSweep := none, sweepRunning := true, settings := allProducts defaultSettings }
    faultLog := s.faultLog.settled
    restartHold := false
    estopHold := s.inputs.estop }

/-- ESTOP and PUMP_FAULT as found asserted at step 6 (R175, R201). -/
def Work.takeInputs (w : Work) : Work :=
  let w := if w.st.inputs.estop then w.fault .estop none 0 else w
  if w.st.inputs.pumpFault then w.fault .pumpFault none 0 else w

/-- The START_UP frame (R182). -/
def State.startUpFrame (s : State) : TxFrame :=
  ⟨.notice .startUp, noticeByte .startUp,
   [restartCauseCode s.restart.cause] ++ beBytes 2 s.restart.interruptions ++ beBytes 1 s.restart.tickets
     ++ beBytes 1 s.restart.testRuns⟩

/-- A link front at step 8 (R194): START_UP at the oldest end, nothing pending, no notice counted lost, transmitting. -/
def LinkFront.opened (x : TxFrame) (f : LinkFront) : LinkFront :=
  { f with request := none, lost := 0, queue := x :: f.queue }.startNext

/-- Steps 7 and 8 (R175, R183): the clock at 0 and invalid, START_UP on every link, phase RUNNING. -/
def State.openLinks (s : State) : State :=
  { s with
    restart := { s.restart with phase := .running, time := 0, clockValid := false }
    links := s.links.map (LinkFront.opened s.startUpFrame) }

/-- Steps 6 to 8 of the start-up sequence (R175). -/
def Work.finishStartUp (w : Work) : Work :=
  let w := (w.mapSt State.settleBlocks).takeInputs
  ⟨(w.st.sendNotices w.notes).openLinks, []⟩

/-- START_UP_FINISH (R175): it comes in STARTING when the recovery and restart update units have completed. -/
def execStartUpFinish (s : State) : Host.Outcome State Fault Refusal :=
  event (fun w => if w.st.restart.phase = .starting ∧ w.st.engine.onlyFaultLog then w.finishStartUp else w) s

end Sys2Proof.Machine
end

