-- ==== Sys2Proof/Machine/Timers.lean ====
section
/-! DEFINITION. The expiries of the part's timers: flow window (R12), quiet and cap timers (R67, R68), sweep timer (R164).
An expiry of a timer that is not running does not occur and changes nothing (log 4). The probe reading is an operand of the
expiries that take a sample (log 5). -/

namespace Sys2Proof.Machine

/-! ## Flow window -/

/-- The absolute difference of nA and nB (R14). -/
def Counts.pickupGap (c : Counts) : Nat := (c.nA - c.nB) + (c.nB - c.nA)

/-- The difference exceeds the tolerance of the latched LINE copy (R14). -/
def Delivery.gapTooWide (d : Delivery) : Bool := d.latched.line.tolerance.toNat < d.counts.pickupGap

/-- The mismatch strikes after step 1 (R14). -/
def Delivery.nextStrikes (d : Delivery) : Nat := if d.gapTooWide then bump 2 d.counts.strikes else 0

/-- Step 1 raises PICKUP_MISMATCH (R14). -/
def Delivery.mismatchRaised (d : Delivery) : Bool := d.nextStrikes == 2

/-- The zero-window run after step 3 (R16). -/
def Delivery.nextZeroRun (d : Delivery) : Nat := if d.counts.nA = 0 then d.counts.zeroRun + 1 else 0

/-- Step 3 raises NO_FLOW (R16), which a PICKUP_MISMATCH of the same expiry suppresses (R12). -/
def Delivery.noFlowRaised (d : Delivery) : Bool :=
  !d.mismatchRaised && decide (d.latched.settings.noFlow.toNat ≤ d.nextZeroRun)

/-- Steps 1 to 3 on the counts (R14 to R16): strikes, band for the next window, zero-window run. -/
def Delivery.judgeWindow (d : Delivery) : Delivery :=
  { d with counts := { d.counts with
      strikes := d.nextStrikes, band := selectBand d.latched.line d.counts.nA, zeroRun := d.nextZeroRun } }

/-- The detail of a PICKUP_MISMATCH entry (R14). -/
def Counts.mismatchDetail (c : Counts) : BitVec 32 := BitVec.ofNat 32 (c.nA * 65536 + c.nB)

/-- Steps 1 to 3 of an expiry with the event they raise (R12, R60). -/
def Work.expiryJudge (l : LineId) (w : Work) : Work :=
  let d := (w.st.line l).delivery
  let w := w.mapDelivery l Delivery.judgeWindow
  if d.mismatchRaised then (w.haltLine l .pickupMismatch).fault .pickupMismatch (some l) d.counts.mismatchDetail
  else if d.noFlowRaised then w.pauseLine l .noFlow
  else w

/-- Step 6 of an expiry (R48): the latch check of a line the load has left FLOWING. -/
def Work.latchCheck (l : LineId) (w : Work) : Work :=
  let d := (w.st.line l).delivery
  if latchCode d.latched = d.checkCode then w
  else (w.haltLine l .latchIntegrity).fault .latchIntegrity (some l) d.checkCode

/-- Steps 5 and 6 of an expiry that raised no event (R84, R85, R65, R48). -/
def Work.expiryLoad (l : LineId) (w : Work) : Work :=
  let w := w.mapDelivery l Delivery.load
  let d := (w.st.line l).delivery
  if d.atStop then w.settleLine l d.stopCause else w.latchCheck l

/-- The RUNNING_TOTAL body (R22, R34, R193): gross_cL as it stands, and the running billed quantity, of which alone R34
limits either form to the capacity (log 38). -/
def runningTotalBody (l : LineId) (d : Delivery) : List Byte :=
  beBytes 1 (lineNo l) ++ beBytes 6 d.grossCl ++ beBytes 3 d.runningBilled ++ [bandCode d.counts.band]

/-- Step 8 of an expiry (R12): nA and nB set to 0. -/
def Delivery.clearWindow (d : Delivery) : Delivery := { d with counts := { d.counts with nA := 0, nB := 0 } }

/-- Steps 7 and 8 of an expiry (R12, R34). -/
def Work.expiryReport (l : LineId) (w : Work) : Work :=
  (w.notify .reel .runningTotal (runningTotalBody l (w.st.line l).delivery)).mapDelivery l Delivery.clearWindow

/-- The eight steps of an expiry (R12). -/
def Work.flowExpiry (l : LineId) (raw : BitVec 16) (w : Work) : Work :=
  let w := (w.expiryJudge l).probeSample l raw
  (if (w.st.line l).state = .flowing then w.expiryLoad l else w).expiryReport l

/-- The line's flow window runs (R10). -/
def Line.windowDue (ln : Line) : Bool := ln.state == .flowing && ln.windowRunning

/-- FLOW_WINDOW_EXPIRY (R12). -/
def execFlowWindowExpiry (l : LineId) (raw : BitVec 16) (s : State) : Host.Outcome State Fault Refusal :=
  event (fun w => if w.st.taking && (w.st.line l).windowDue then w.flowExpiry l raw else w) s

/-! ## Settling timers -/

/-- The line's quiet timer runs (R66). -/
def Line.quietDue (ln : Line) : Bool := ln.state == .settling && ln.quietRunning

/-- The line's cap timer runs (R66). -/
def Line.capDue (ln : Line) : Bool := ln.state == .settling && ln.capRunning

/-- QUIET_TIMER_EXPIRY (R67, R68). -/
def execQuietTimerExpiry (l : LineId) (raw : BitVec 16) (s : State) : Host.Outcome State Fault Refusal :=
  event (fun w => if w.st.taking && (w.st.line l).quietDue then w.close l raw else w) s

/-- The cap timer ends SETTLING (R67): the SETTLE_CAP flag and entry, with G as its detail modulo 2³² (R201). -/
def Work.settleCap (l : LineId) (w : Work) : Work :=
  (w.mapDelivery l (fun d => { d with flags := { d.flags with settleCap := true } })).fault .settleCap (some l)
    (BitVec.ofNat 32 (w.st.line l).delivery.counts.g)

/-- CAP_TIMER_EXPIRY (R67, R68). -/
def execCapTimerExpiry (l : LineId) (raw : BitVec 16) (s : State) : Host.Outcome State Fault Refusal :=
  event (fun w => if w.st.taking && (w.st.line l).capDue then (w.settleCap l).close l raw else w) s

/-! ## Sweep timer -/

/-- The result of a timer sweep kept (R164). -/
def State.keepSweep (s : State) (pass : Bool) : State := { s with cal := { s.cal with lastSweep := some pass } }

/-- A timer sweep over all 14 records (R164, R166). -/
def Work.sweepAll (w : Work) : Work :=
  let bad := w.st.mismatched allRecords
  let w := w.mapSt (fun s => s.keepSweep bad.isEmpty)
  if bad.isEmpty then w else w.failedSweep bad

/-- SWEEP_TIMER_EXPIRY (R164). -/
def execSweepTimerExpiry (s : State) : Host.Outcome State Fault Refusal :=
  event (fun w => if w.st.taking && w.st.cal.sweepRunning then w.sweepAll else w) s

end Sys2Proof.Machine
end

