-- ==== Sys2Proof/Machine/Upsets.lean ====
section
/-! DEFINITION. The disturbances of held and stored values that the spec gives as events of the world outside the part's
logic: a shadow upset (R165), a latched copy disturbed (R48), damage to the stored calibration (R163). Each carries the
bits it leaves (log 10, 11, 12). -/

namespace Sys2Proof.Machine

/-- SHADOW_UPSET (R165): the shadow changes, its reference check does not. -/
def execShadowUpset (valid : Bool) (r : CalRecord) (s : State) : Host.Outcome State Fault Refusal :=
  event (fun w => w.mapSt (fun s => { s with cal := { s.cal with shadows := s.cal.shadows.put valid r } })) s

/-- LATCHED_COPY_DISTURBED (R48): the latched copies change, the latch check code held beside them does not. A record that
has latched nothing has no copy to disturb. -/
def execLatchedCopyDisturbed (l : LineId) (copies : Latched) (s : State) : Host.Outcome State Fault Refusal :=
  event (fun w =>
    if (w.st.line l).delivery.mode.isSome then w.mapDelivery l (fun d => { d with latched := copies }) else w) s

/-- The store with its calibration damaged (R163): what the correction codes were formed over does not change. -/
def Store.damaged (st : Store) : StoredDamage → Store
  | .record valid r => { st with records := st.records.put valid r }
  | .checksum v => { st with checksum := v }

/-- STORED_CALIBRATION_DAMAGE (R163). -/
def execStoredCalibrationDamage (d : StoredDamage) (s : State) : Host.Outcome State Fault Refusal :=
  event (fun w => w.mapSt (fun s => { s with store := s.store.damaged d })) s

end Sys2Proof.Machine
end

