-- ==== Sys2Proof/Machine/Dispatch.lean ====
section
/-! DEFINITION. The meaning of every command: one direct call for each row of spec/opcode_table.json, in its order. -/

namespace Sys2Proof.Machine

def exec (i : Instr) (s : State) : Host.Outcome State Fault Refusal :=
  match i with
  | .loadOrder link body => Sys2Proof.Machine.execLoadOrder link body s
  | .withdrawOrder link body => Sys2Proof.Machine.execWithdrawOrder link body s
  | .readOrders link body => Sys2Proof.Machine.execReadOrders link body s
  | .writePlan link body => Sys2Proof.Machine.execWritePlan link body s
  | .readPlan link body => Sys2Proof.Machine.execReadPlan link body s
  | .writeProductSettings link body => Sys2Proof.Machine.execWriteProductSettings link body s
  | .setClock link body => Sys2Proof.Machine.execSetClock link body s
  | .readTicket link body => Sys2Proof.Machine.execReadTicket link body s
  | .ackTickets link body => Sys2Proof.Machine.execAckTickets link body s
  | .stopLine link body => Sys2Proof.Machine.execStopLine link body s
  | .readStatus link body => Sys2Proof.Machine.execReadStatus link body s
  | .readFaultLog link body => Sys2Proof.Machine.execReadFaultLog link body s
  | .readTotals link body => Sys2Proof.Machine.execReadTotals link body s
  | .readAudit link body => Sys2Proof.Machine.execReadAudit link body s
  | .searchOrder link body => Sys2Proof.Machine.execSearchOrder link body s
  | .arm link body => Sys2Proof.Machine.execArm link body s
  | .start link body => Sys2Proof.Machine.execStart link body s
  | .pause link body => Sys2Proof.Machine.execPause link body s
  | .resume link body => Sys2Proof.Machine.execResume link body s
  | .add link body => Sys2Proof.Machine.execAdd link body s
  | .endDelivery link body => Sys2Proof.Machine.execEndDelivery link body s
  | .disarm link body => Sys2Proof.Machine.execDisarm link body s
  | .readLine link body => Sys2Proof.Machine.execReadLine link body s
  | .readRecord link body => Sys2Proof.Machine.execReadRecord link body s
  | .writeRecord link body => Sys2Proof.Machine.execWriteRecord link body s
  | .armTest link body => Sys2Proof.Machine.execArmTest link body s
  | .clearFaultLog link body => Sys2Proof.Machine.execClearFaultLog link body s
  | .readChecksum link body => Sys2Proof.Machine.execReadChecksum link body s
  | .unknownRequest link kind body => Sys2Proof.Machine.execUnknownRequest link kind body s
  | .frameDiscarded link => Sys2Proof.Machine.execFrameDiscarded link s
  | .lineError link => Sys2Proof.Machine.execLineError link s
  | .receiveGapTimeout link => Sys2Proof.Machine.execReceiveGapTimeout link s
  | .frameTransmitted link => Sys2Proof.Machine.execFrameTransmitted link s
  | .pickup1Pulse l => Sys2Proof.Machine.execPickup1Pulse l s
  | .pickup2Pulse l => Sys2Proof.Machine.execPickup2Pulse l s
  | .airAsserted l => Sys2Proof.Machine.execAirAsserted l s
  | .airReleased l => Sys2Proof.Machine.execAirReleased l s
  | .estopAsserted => Sys2Proof.Machine.execEstopAsserted s
  | .estopReleased => Sys2Proof.Machine.execEstopReleased s
  | .pumpFaultAsserted => Sys2Proof.Machine.execPumpFaultAsserted s
  | .pumpFaultReleased => Sys2Proof.Machine.execPumpFaultReleased s
  | .inspectionSwitchOpened => Sys2Proof.Machine.execInspectionSwitchOpened s
  | .inspectionSwitchClosed => Sys2Proof.Machine.execInspectionSwitchClosed s
  | .powerFailWarning => Sys2Proof.Machine.execPowerFailWarning s
  | .resetAsserted => Sys2Proof.Machine.execResetAsserted s
  | .powerFailWarningCleared => Sys2Proof.Machine.execPowerFailWarningCleared s
  | .resetReleased => Sys2Proof.Machine.execResetReleased s
  | .restartSaveWritten => Sys2Proof.Machine.execRestartSaveWritten s
  | .startUpSequence => Sys2Proof.Machine.execStartUpSequence s
  | .startUpFinish => Sys2Proof.Machine.execStartUpFinish s
  | .flowWindowExpiry l raw => Sys2Proof.Machine.execFlowWindowExpiry l raw s
  | .quietTimerExpiry l raw => Sys2Proof.Machine.execQuietTimerExpiry l raw s
  | .capTimerExpiry l raw => Sys2Proof.Machine.execCapTimerExpiry l raw s
  | .sweepTimerExpiry => Sys2Proof.Machine.execSweepTimerExpiry s
  | .clockSecond => Sys2Proof.Machine.execClockSecond s
  | .journalAppendCompletion => Sys2Proof.Machine.execJournalAppendCompletion s
  | .calibrationWriteCompletion => Sys2Proof.Machine.execCalibrationWriteCompletion s
  | .testRecordCompletion => Sys2Proof.Machine.execTestRecordCompletion s
  | .restartUpdateCompletion => Sys2Proof.Machine.execRestartUpdateCompletion s
  | .faultLogWriteCompletion => Sys2Proof.Machine.execFaultLogWriteCompletion s
  | .shadowUpset valid r => Sys2Proof.Machine.execShadowUpset valid r s
  | .latchedCopyDisturbed l copies => Sys2Proof.Machine.execLatchedCopyDisturbed l copies s
  | .storedTicketDamage place record => Sys2Proof.Machine.execStoredTicketDamage place record s
  | .linkByteReceived link byte => Sys2Proof.Machine.execLinkByteReceived link byte s
  | .storedCalibrationDamage d => Sys2Proof.Machine.execStoredCalibrationDamage d s

end Sys2Proof.Machine
end

