-- ==== Sys2Proof/Safety.lean ====
section
/-! DEFINITION. The terms in which statements speak of the part: what a request leaves on the links, the bodies and codes of
chapter 10, lines after a change, recovery, runs of commands, and the invariants a safe run keeps. -/

namespace Sys2Proof.Safety

open Sys2Proof.Machine

/-! ## Requests -/

/-- The command that carries a request of a kind. -/
def requestCommand (k : RequestKind) (link : Link) (body : List Byte) : Instr :=
  match k with
  | .loadOrder => .loadOrder link body
  | .withdrawOrder => .withdrawOrder link body
  | .readOrders => .readOrders link body
  | .writePlan => .writePlan link body
  | .readPlan => .readPlan link body
  | .writeProductSettings => .writeProductSettings link body
  | .setClock => .setClock link body
  | .readTicket => .readTicket link body
  | .ackTickets => .ackTickets link body
  | .stopLine => .stopLine link body
  | .readStatus => .readStatus link body
  | .readFaultLog => .readFaultLog link body
  | .readTotals => .readTotals link body
  | .readAudit => .readAudit link body
  | .searchOrder => .searchOrder link body
  | .arm => .arm link body
  | .start => .start link body
  | .pause => .pause link body
  | .resume => .resume link body
  | .add => .add link body
  | .endDelivery => .endDelivery link body
  | .disarm => .disarm link body
  | .readLine => .readLine link body
  | .readRecord => .readRecord link body
  | .writeRecord => .writeRecord link body
  | .armTest => .armTest link body
  | .clearFaultLog => .clearFaultLog link body
  | .readChecksum => .readChecksum link body

/-- A frame that is a request kind, or else an UNKNOWN_REQUEST. -/
def frameCommand (link : Link) (kind : Byte) (body : List Byte) : Instr :=
  match requestOf? kind with
  | some k => requestCommand k link body
  | none => .unknownRequest link kind body

/-- A link front takes a request of a kind (R189): phase RUNNING, nothing pending, the kind marked for the link. -/
structure Takes (s : State) (link : Link) (k : RequestKind) : Prop where
  running : s.restart.phase = .running
  free : (s.front link).request = none
  marked : permitted k link = true

/-- The part with a request taken, before its owner acts (R189). -/
def asked (s : State) (link : Link) (k : RequestKind) (body : List Byte) : State :=
  s.setFront link { s.front link with rx := .hunt, request := some (k, body) }

/-- The part with a request taken and its reply `r` handed to the link front (R189, R191). -/
def replied (s : State) (link : Link) (k : RequestKind) (body : List Byte) (r : Reply) : State :=
  s.setFront link (LinkFront.place .running (r.frame (requestByte k) .reply)
    { s.front link with rx := .hunt, request := some (k, body) })

/-- The link fronts once a request has been taken, answered with `r`, and the notices `ns` sent (R189, R191). -/
def told (s : State) (link : Link) (k : RequestKind) (body : List Byte) (r : Reply) (ns : List Notice) : PerLink LinkFront :=
  ((replied s link k body r).sendNotices ns).links

/-- The part after a request that changes nothing but the links. -/
def answered (s : State) (link : Link) (k : RequestKind) (body : List Byte) (r : Reply) : State :=
  (replied s link k body r).drive

/-- A character field (R195): at least `least` character codes of 32..126, then bytes of 0x00 to its end. -/
def CharField (least : Nat) (bs : List Byte) : Prop :=
  ∃ k, least ≤ k ∧ k ≤ bs.length ∧ (∀ c ∈ bs.take k, 32 ≤ c.toNat ∧ c.toNat ≤ 126) ∧ ∀ c ∈ bs.drop k, c = 0

/-- A two-byte field at an offset, signed (R195). -/
def signedField (body : List Byte) (off : Nat) : Int := (BitVec.ofNat 16 (field body off 2)).toInt

/-- The bodies of each request whose length and fields are within what its rule gives (R189, R195, R196, R199): lines 0 and 1,
products 0..3, slots 0..23, plans 0..7, records 0..13, and the ranges of R44, R49, R90, R97, R100, R114, R134, R147, R149,
R161 and R203. -/
def InRange (k : RequestKind) (b : List Byte) : Prop :=
  match k with
  | .loadOrder => b.length = 26 ∧ field b 0 4 ≠ 0 ∧ CharField 1 ((b.drop 4).take 10) ∧ field b 17 1 ≤ 3 ∧
    (field b 18 1 = 0 ∧ 1 ≤ field b 19 4 ∧ field b 19 4 ≤ 9999999 ∨ field b 18 1 = 1 ∧ field b 19 4 = 0) ∧
    (field b 23 1 ≤ 7 ∨ field b 23 1 = 255) ∧ field b 24 2 ≤ 5000
  | .withdrawOrder => b.length = 4 ∧ field b 0 4 ≠ 0
  | .readOrders => b.length = 1 ∧ field b 0 1 ≤ 23
  | .searchOrder => b.length = 6
  | .writePlan => field b 0 1 ≤ 7 ∧ field b 1 1 ≤ 8 ∧ b.length = 2 + 10 * field b 1 1 ∧
    ∀ i < field b 1 1,
      (field b (2 + 10 * i) 1 % 2 = 0 ∨ 1 ≤ field b (3 + 10 * i) 3 ∧ field b (3 + 10 * i) 3 ≤ 99999) ∧
      field b (6 + 10 * i) 3 ≤ 99999 ∧ field b (9 + 10 * i) 3 ≤ 999999
  | .readPlan => b.length = 1 ∧ field b 0 1 ≤ 7
  | .writeProductSettings => b.length = 17 ∧ field b 0 1 ≤ 3 ∧ CharField 0 ((b.drop 1).take 12) ∧
    field b 13 3 ≤ 99999 ∧ 5 ≤ field b 16 1 ∧ field b 16 1 ≤ 120
  | .setClock | .ackTickets => b.length = 4
  | .readTicket | .readAudit => b.length = 5 ∧ (field b 0 1 % 2 = 0 ∨ field b 1 4 ≠ 0)
  | .readFaultLog => b.length = 1 ∧ field b 0 1 ≤ 31
  | .arm => b.length = 2 ∧ field b 0 1 ≤ 1 ∧ field b 1 1 ≤ 23
  | .add => b.length = 4 ∧ field b 0 1 ≤ 1 ∧ 1 ≤ field b 1 3 ∧ field b 1 3 ≤ 9999999
  | .armTest => b.length = 6 ∧ field b 1 1 ≤ 1 ∧ field b 2 1 ≤ 3 ∧
    (field b 0 1 % 2 = 0 ∨ 1 ≤ field b 3 3 ∧ field b 3 3 ≤ 9999999)
  | .start | .pause | .resume | .endDelivery | .disarm | .stopLine | .readLine => b.length = 1 ∧ field b 0 1 ≤ 1
  | .readStatus | .readTotals | .readChecksum | .clearFaultLog => b = []
  | .readRecord => b.length = 1 ∧ field b 0 1 ≤ 13
  | .writeRecord =>
    field b 0 1 ≤ 1 ∧ b.length = 9 ∧ field b 1 2 < field b 3 2 ∧ field b 5 1 ≤ 15 ∧ 1 ≤ field b 6 1 ∧
      -200 ≤ signedField b 7 ∧ signedField b 7 ≤ 200 ∨
    2 ≤ field b 0 1 ∧ field b 0 1 ≤ 9 ∧ b.length = 10 ∧
      (∀ o, o = 1 ∨ o = 4 ∨ o = 7 → 100 ≤ field b o 2 ∧ field b (o + 2) 1 ≤ 15) ∨
    10 ≤ field b 0 1 ∧ field b 0 1 ≤ 13 ∧ b.length = 6 ∧ field b 1 2 ≤ 2000 ∧
      -4000 ≤ signedField b 3 ∧ signedField b 3 ≤ 6000 ∧ field b 5 1 ≤ 1

/-! ## Bodies, in the words of chapter 10 -/

/-- A byte of 0x01 for set or yes and 0x00 otherwise (R199). -/
def yesByte (b : Bool) : Byte := if b then 0x01 else 0x00

/-- A presence byte (R199): bit `j` of byte `i` stands for optional field `8 i + j` and is set when the field is there. -/
def presenceByte (present : List Bool) (i : Nat) : Byte :=
  BitVec.ofNat 8 ((List.range 8).map (fun j => if present[8 * i + j]? = some true then 2 ^ j else 0)).sum

/-- The presence bytes of a body: one for each 8 optional fields begun (R199). -/
def presence (present : List Bool) : List Byte := (List.range ((present.length + 7) / 8)).map (presenceByte present)

/-- A body laid out from its fields: the presence bytes, then the fields in order, an absent one as bytes of 0x00 (R195,
R199). -/
def laid (items : List Item) : List Byte :=
  presence (items.filterMap (fun x => match x with
    | .fixed _ => none
    | .opt _ v => some v.isSome))
  ++ items.flatMap (fun x => match x with
    | .fixed bs => bs
    | .opt width v => v.getD (List.replicate width 0x00))

/-- The state byte of LINE_STATE (R198). -/
def stateByte : LineState → Byte
  | .unverified => 0x00
  | .idle => 0x01
  | .armed => 0x02
  | .flowing => 0x03
  | .paused => 0x04
  | .halted => 0x05
  | .settling => 0x06
  | .recording => 0x07

/-- The mode byte of LINE_STATE (R198). -/
def modeByte (m : Option Mode) : Byte := if m = some .sale then 0x01 else if m = some .test then 0x02 else 0x00

/-- The slot byte: 0xFF when absent (R198). -/
def slotNumber (n : Option SlotNo) : Byte := BitVec.ofNat 8 ((n.map Fin.val).getD 0xFF)

/-- The pause causes (R198). -/
def pauseByte : Option PauseCause → Byte
  | none => 0x00
  | some .driver => 0x11
  | some .noFlow => 0x12
  | some .air => 0x13
  | some .estop => 0x14
  | some .pump => 0x15

/-- The halt causes (R198). -/
def haltByte : Option HaltCause → Byte
  | none => 0x00
  | some .creep => 0x21
  | some .pickupMismatch => 0x22
  | some .latchIntegrity => 0x23
  | some .calIntegrity => 0x24

/-- The end causes (R198). -/
def endByte : Option EndCause → Byte
  | none => 0x00
  | some .preset => 0x31
  | some .capacity => 0x32
  | some .driverEnd => 0x33
  | some .cabStop => 0x34
  | some .power => 0x35
  | some .reset => 0x36

/-- The bands, in the order of R1 (R199). -/
def bandByte (b : Band) : Byte := if b = .low then 0x00 else if b = .main then 0x01 else 0x02

/-- The valve stages, in the order of R75 (R199). -/
def stageByte (v : ValveStage) : Byte := if v = .closed then 0x00 else if v = .trickle then 0x01 else 0x02

/-- The preset kinds (R196). -/
def kindByte (k : PresetKind) : Byte := if k = .volume then 0x00 else 0x01

/-- The billing bases (R197). -/
def basisByte (b : Basis) : Byte := if b = .gross then 0x00 else 0x01

/-- The flags byte of a ticket (R197). -/
def flagBits (f : Flags) : Byte :=
  BitVec.ofNat 8 ((if f.tempSubst then 1 else 0) + (if f.probeFault then 2 else 0) + (if f.clockUnset then 4 else 0)
    + (if f.capacity then 8 else 0) + (if f.settleCap then 16 else 0) + (if f.interrupted then 32 else 0)
    + if f.inspectionOpened then 64 else 0)

/-- The fault codes, in the order of R200; the causes that R198 codes carry that code (log 17). -/
def faultByte : FaultCode → Byte
  | .unticketedFlow => 0x00
  | .pickupMismatch => 0x22
  | .creep => 0x21
  | .latchIntegrity => 0x23
  | .calIntegrity => 0x24
  | .calCorrected => 0x05
  | .calUncorrectable => 0x06
  | .journalDamaged => 0x07
  | .probeFault => 0x08
  | .settleCap => 0x09
  | .estop => 0x14
  | .pumpFault => 0x0B
  | .powerInterrupted => 0x0C
  | .resetInterrupted => 0x0D

/-- The 15 bytes of a LINE_STATE notice (R40, R198); `nothing` says that the line returns from a close with G = 0. -/
def lineStateBytes (l : LineId) (ln : Line) (nothing : Bool) : List Byte :=
  let d := ln.delivery
  let holds := ln.state ≠ .idle ∧ ln.state ≠ .unverified
  let cause : Byte := match ln.state with
    | .paused => pauseByte d.pauseCause
    | .halted => haltByte d.haltCause
    | .settling => endByte d.endCause
    | .idle | .unverified => if nothing then 0x40 else 0x00
    | .armed | .flowing | .recording => 0x00
  beBytes 1 (lineNo l) ++ [stateByte ln.state, if holds then modeByte d.mode else 0x00,
      if holds then slotNumber d.slot else 0xFF, cause]
    ++ beBytes 6 (d.counts.g / 1000) ++ beBytes 4 (if ln.state = .recording then d.ticketNumber.getD 0 else 0)

/-- The four fields of a fault-log entry (R200). -/
def entryFields (e : FaultEntry) : List Item :=
  [.opt 4 (e.time.map (beBytes 4)), .fixed [faultByte e.code], .opt 1 (e.line.map (fun l => beBytes 1 (lineNo l))),
   .fixed (beBytes 4 e.detail.toNat)]

/-- The LINE_STATE notices of a line (R40, R193). -/
def lineNotices (l : LineId) (ln : Line) (nothing : Bool) : List Notice :=
  [⟨.cab, .lineState, lineStateBytes l ln nothing⟩, ⟨.reel, .lineState, lineStateBytes l ln nothing⟩]

/-- The FAULT_RAISED notices of an entry (R193, R202). -/
def faultNotices (e : FaultEntry) : List Notice :=
  [⟨.cab, .faultRaised, laid (entryFields e)⟩, ⟨.metrology, .faultRaised, laid (entryFields e)⟩]

/-- An order copy without its tax rate, offsets 0 to 23 of the order body (R196). -/
def orderFields (o : OrderCopy) : List Byte :=
  beBytes 4 o.orderId.toNat ++ padTo 10 o.account ++ beBytes 3 o.site.toNat ++ beBytes 1 (productNo o.product)
    ++ [kindByte o.kind] ++ beBytes 4 o.amount.toNat ++ [BitVec.ofNat 8 ((o.plan.map Fin.val).getD 0xFF)]

/-- An order as a LOAD_ORDER body and a ticket carry it: the tax rate takes both bytes at offset 24 (R96, R125, R196; log 9). -/
def loadBody (o : OrderCopy) : List Byte := orderFields o ++ beBytes 2 o.taxRate.toNat

/-- An order as a reply gives it: the presence byte at offset 25, the low byte of the tax rate at offset 34 (R196; log 9). -/
def orderData (o : Order) : List Byte :=
  orderFields o.copy ++ [BitVec.ofNat 8 (o.copy.taxRate.toNat / 256), yesByte o.arrival.isSome]
    ++ beBytes 4 (o.arrival.getD 0) ++ beBytes 4 o.seq ++ [BitVec.ofNat 8 o.copy.taxRate.toNat]

/-- The journal summary of R134. -/
def summary (j : Journal) : List Item :=
  [.fixed (beBytes 2 j.header.count), .fixed (beBytes 2 j.header.transferred), .fixed (beBytes 1 j.reservations),
   .fixed (beBytes 4 j.header.oldestNumber),
   .opt 4 (if j.header.count = 0 then none else some (beBytes 4 (j.header.oldestNumber + j.header.count - 1)))]

/-- The fields of a TEST_RUN entry (R71, R160). -/
def runFields (r : TestRun) : List Item :=
  [.fixed (beBytes 1 (lineNo r.line)), .fixed (beBytes 1 (productNo r.product)), .fixed (beBytes 8 r.g),
   .fixed (beBytes 6 r.gross), .fixed (beBytes 6 r.net), .opt 2 (r.average.map (signedBytes 2)), .fixed (beBytes 4 r.vcf),
   .fixed (beBytes 7 r.openTot), .fixed (beBytes 7 r.closeTot), .fixed [yesByte r.interrupted],
   .opt 4 (r.time.map (beBytes 4))]

/-- The body of a TEST_RESULT that reports an entry (R160, R193). -/
def resultBytes (number : Nat) (r : TestRun) : List Byte :=
  laid ([.fixed (beBytes 1 (lineNo r.line)), .fixed (beBytes 4 number)] ++ runFields r)

/-! ## The data of the requests that only read -/

/-- A line in READ_STATUS (R74). -/
def lineStatus (ln : Line) : List Byte :=
  let d := ln.delivery
  [stateByte ln.state, modeByte d.mode, slotNumber d.slot, pauseByte d.pauseCause, haltByte d.haltCause, endByte d.endCause]
    ++ beBytes 6 (d.counts.g / 1000)

/-- The data of READ_LINE (R22, R39, R74, R94, R192; log 16, 18). -/
def lineData (ln : Line) (lost : Nat) : List Byte :=
  let d := ln.delivery
  let filled := fun (width : Nat) (v : List Byte) => Item.opt width (if d.mode = none then none else some v)
  let gross := d.counts.g / 1000
  let billed := match d.latched.product.basis with
    | .gross => gross
    | .net => d.counts.g * d.corr.runVcf / 1000000000
  laid [.fixed [stateByte ln.state], .fixed [modeByte d.mode], .fixed [slotNumber d.slot],
    .opt 4 (d.latched.order.map (fun o => beBytes 4 o.orderId.toNat)), filled 1 (beBytes 1 (productNo d.product)),
    .opt 1 (d.preset.kind.map (fun k => [kindByte k])), .opt 4 (d.preset.amount.map (beBytes 4)),
    .fixed (beBytes 4 d.preset.loadedTop), .fixed (beBytes 3 d.preset.stagedTop), .fixed (beBytes 5 d.preset.stop),
    .fixed (beBytes 5 d.preset.slow), .fixed (beBytes 5 d.preset.stagedStop), .fixed (beBytes 5 d.preset.stagedSlow),
    .fixed [stageByte d.preset.stage], .fixed [pauseByte d.pauseCause], .fixed [haltByte d.haltCause],
    .fixed [endByte d.endCause], .fixed [flagBits d.flags],
    .opt 4 (if ln.state = .recording then d.ticketNumber.map (beBytes 4) else none), .opt 4 (d.armTime.map (beBytes 4)),
    filled 8 (beBytes 4 d.identity.counter ++ beBytes 4 d.identity.checksum.toNat), .fixed [bandByte d.counts.band],
    .fixed (beBytes 8 d.counts.g), .fixed (beBytes 1 d.counts.framePos), .fixed (beBytes 1 d.counts.strikes),
    .fixed (beBytes 1 d.counts.zeroRun), .fixed (beBytes 2 d.counts.creep), .opt 2 (ln.temp.lastRaw.map (signedBytes 2)),
    .opt 3 (ln.temp.lastCorrected.map (signedBytes 3)), .fixed [yesByte ln.temp.substituted],
    .opt 2 (ln.temp.lastValid.map (signedBytes 2)), .fixed (signedBytes 9 d.corr.w), .fixed (beBytes 8 d.counts.gs),
    .fixed (beBytes 8 d.counts.gp), .opt 2 (d.corr.lastValid.map (signedBytes 2)), .opt 2 (d.corr.runAvg.map (signedBytes 2)),
    .fixed (beBytes 4 d.corr.runVcf), .fixed [yesByte d.flags.tempSubst], .fixed [yesByte d.flags.probeFault],
    .fixed (beBytes 3 (min 9999999 billed)), .fixed (beBytes 1 lost)]

/-- The slot states, in the order of R95 (R199): FREE, WAITING, BOUND. -/
def slotState : Slot → Byte
  | .free => 0x00
  | .waiting _ => 0x01
  | .bound .. => 0x02

/-- A slot in READ_ORDERS (R101): number, state, holding line, order. -/
def slotData (t : OrderTable) (n : SlotNo) : List Byte :=
  let fields := fun (line : Option (List Byte)) (o : Order) =>
    laid [.fixed (beBytes 1 n.val), .fixed [slotState (t.slot n)], .opt 1 line, .fixed (orderData o)]
  match t.slot n with
  | .free => []
  | .waiting o => fields none o
  | .bound l o => fields (some (beBytes 1 (lineNo l))) o

/-- The data of READ_ORDERS (R101): the first four slots from `first` on that are WAITING or BOUND, the counts of the whole
table, the counter, and the slot to continue from. -/
def ordersData (t : OrderTable) (first : SlotNo) : List Byte :=
  let numbers := List.finRange 24
  let taken := numbers.filter (fun n => decide (first ≤ n ∧ t.slot n ≠ .free))
  let waiting := numbers.filter (fun n => slotState (t.slot n) = 0x01)
  let bound := numbers.filter (fun n => slotState (t.slot n) = 0x02)
  beBytes 1 (min 4 taken.length) ++ (taken.take 4).flatMap (slotData t) ++ beBytes 1 waiting.length
    ++ beBytes 1 bound.length ++ beBytes 4 t.counter ++ [slotNumber taken[4]?]

/-- The data of READ_PLAN (R116), which is also the body of WRITE_PLAN (R113): number, tier count, and each tier with a presence
byte of its own. -/
def planData (n : PlanNo) (tiers : List Tier) : List Byte :=
  beBytes 1 n.val ++ beBytes 1 tiers.length ++ tiers.flatMap (fun t =>
    laid [.opt 3 (t.bound.map (fun b => beBytes 3 b.toNat)), .fixed (beBytes 3 t.price.toNat),
      .fixed (beBytes 3 t.charge.toNat)])

/-- The data of READ_TICKET for the entry at position `i` from the oldest (R128, R129, R134; log 16, 17, 39). -/
def ticketData (s : State) (i : Nat) : List Byte :=
  let h := s.journal.header
  let place : Fin 256 := Fin.ofNat 256 (h.oldestPlace + i)
  let record := s.store.places[place].getD []
  let state : Byte := if i < h.transferred then 0x00 else if s.journal.marks.getLsbD place.val = true then 0x01 else 0x02
  let good := record.drop 134 = beBytes 4 (crc32 (record.take 134)).toNat
  let next := (List.range h.count).find? (fun j => i < j && h.transferred ≤ j)
  laid ([.fixed (padTo 138 record), .fixed (beBytes 4 (h.oldestNumber + i)), .fixed [state],
    .fixed [if good then 0x00 else 0x01], .opt 4 (next.map (fun j => beBytes 4 (h.oldestNumber + j)))] ++ summary s.journal)

/-- The data of READ_FAULT_LOG (R203): up to 16 ring entries from the start position on, each with its mark (stored 0,
unstored 1), the number of ring entries, the overflow, the lost count. -/
def faultLogData (f : FaultLog) (start : Nat) : List Byte :=
  let shown := (f.ring.drop start).take 16
  beBytes 1 (min 16 (f.ring.length - start))
    ++ shown.flatMap (fun x => laid (entryFields x.entry ++ [.fixed [if x.stored then 0x00 else 0x01]]))
    ++ beBytes 1 f.ring.length ++ beBytes 1 f.overflow.length ++ f.overflow.flatMap (fun e => laid (entryFields e))
    ++ beBytes 1 f.lost

/-- The number of the audit entry at position `i` from the oldest: 1 follows 4,294,967,295 (R158). -/
def auditNumber (st : Store) (i : Nat) : Nat := (st.auditOldest - 1 + i) % 4294967295 + 1

/-- The kind and the fields of an audit entry (R159, R160): CAL_CHANGE 0, TEST_RUN 1. -/
def auditFields : AuditEntry → List Item
  | .calChange counter time old new =>
    let width := match new with
      | .line .. => 8
      | .meter .. => 9
      | .product .. => 5
    [.fixed [0x00], .fixed (beBytes 4 counter), .opt 4 (time.map (beBytes 4)), .fixed (beBytes 1 (recordNo new.id)),
     .opt width (old.map contentBytes), .fixed (contentBytes new)]
  | .testRun r => .fixed [0x01] :: runFields r

/-- The data of READ_AUDIT for the entry `e` at position `i` (R161). -/
def auditData (st : Store) (i : Nat) (e : AuditEntry) : List Byte :=
  laid ([.fixed (beBytes 4 (auditNumber st i))] ++ auditFields e
    ++ [.opt 4 (if i + 1 < st.audit.length then some (beBytes 4 (auditNumber st (i + 1))) else none),
        .fixed (beBytes 4 st.auditOldest), .fixed (beBytes 1 st.audit.length), .fixed (beBytes 4 st.eventCounter)])

/-- The data of READ_RECORD (R169; VALID 0 and INVALID 1, QUEUED 0 and IN_FLIGHT 1). -/
def recordData (s : State) (r : RecordId) : List Byte :=
  let x := s.cal.shadows.get r
  let width := match r with
    | .line _ => 8
    | .meter .. => 9
    | .product _ => 5
  let named := match s.cal.pendingWrite with
    | some (i, w) => if i = r then some w else none
    | none => none
  let latches := fun (l : LineId) =>
    let ln := s.line l
    decide (ln.state ≠ .idle ∧ ln.state ≠ .unverified ∧
      (r = .line l ∨ r = .meter l ln.delivery.product ∨ r = .product ln.delivery.product))
  laid [.fixed (beBytes 1 (recordNo r)), .fixed [if x.1 then 0x00 else 0x01],
    .opt width (if x.1 then some (contentBytes x.2) else none), .fixed (beBytes 4 (s.cal.refs.get r).toNat),
    .fixed [yesByte named.isSome], .opt 1 (named.map (fun w => [if w = .queued then 0x00 else 0x01])),
    .fixed [yesByte (latches .a)], .fixed [yesByte (latches .b)]]

/-- The data of READ_CHECKSUM (R170; CONSISTENT 0 and FAILED 1, PASS 0 and FAIL 1): the pending write is one field. -/
def checksumData (s : State) : List Byte :=
  laid [.fixed (beBytes 4 s.store.checksum.toNat), .fixed [if s.cal.consistent then 0x00 else 0x01],
    .fixed (beBytes 4 s.store.eventCounter),
    .opt 2 (s.cal.pendingWrite.map (fun x => beBytes 1 (recordNo x.1) ++ [if x.2 = .queued then 0x00 else 0x01])),
    .opt 1 (s.cal.lastSweep.map (fun ok => [if ok then 0x00 else 0x01])),
    .fixed ((List.range 14).flatMap (fun n => ((recordOf? n).map (fun r => beBytes 4 (s.cal.refs.get r).toNat)).getD [])),
    .fixed (beBytes 4 s.store.auditOldest), .fixed (beBytes 1 s.store.audit.length)]

/-! ## The codes of frames -/

/-- The kind byte of a request and the links it is marked for (R188). -/
def requestRow : RequestKind → Byte × List Link
  | .loadOrder => (0x01, [.cab])
  | .withdrawOrder => (0x02, [.cab])
  | .readOrders => (0x03, [.cab])
  | .writePlan => (0x04, [.cab])
  | .readPlan => (0x05, [.cab])
  | .writeProductSettings => (0x06, [.cab])
  | .setClock => (0x07, [.cab])
  | .readTicket => (0x08, [.cab])
  | .ackTickets => (0x09, [.cab])
  | .stopLine => (0x0A, [.cab])
  | .readStatus => (0x0B, [.cab])
  | .readFaultLog => (0x0C, [.cab, .metrology])
  | .readTotals => (0x0D, [.cab, .metrology])
  | .readAudit => (0x0E, [.cab, .metrology])
  | .searchOrder => (0x10, [.reel])
  | .arm => (0x11, [.reel])
  | .start => (0x12, [.reel])
  | .pause => (0x13, [.reel])
  | .resume => (0x14, [.reel])
  | .add => (0x15, [.reel])
  | .endDelivery => (0x16, [.reel])
  | .disarm => (0x17, [.reel])
  | .readLine => (0x18, [.reel, .metrology])
  | .readRecord => (0x20, [.metrology])
  | .writeRecord => (0x21, [.metrology])
  | .armTest => (0x22, [.metrology])
  | .clearFaultLog => (0x23, [.metrology])
  | .readChecksum => (0x24, [.metrology])

/-- The refusal codes in the order of their values, from 0x01 (R190). -/
def refusalTable : List RefusalCode :=
  [.outOfRange, .linkBusy, .notPermitted, .unknownRequest, .lineBusy, .unverified, .inspectionOpen, .inspectionClosed,
   .estop, .pumpFault, .air, .orderEmpty, .orderBound, .productUnverified, .calBusy, .planEmpty, .journalFull, .notPreset,
   .duplicateOrder, .tableFull, .badPlan, .noSuchTicket, .ackBeyond, .inUse, .counterExhausted]

/-- The notices in the order of their kinds, from 0xA0 (R193). -/
def noticeTable : List NoticeKind :=
  [.lineState, .runningTotal, .ticketReady, .startUp, .writeDone, .testResult, .faultRaised]

/-! ## Lines after a change of state, in the words of chapter 3 -/

/-- What the links hold when notices have been sent from a state. -/
def noticed (s : State) (ns : List Notice) : PerLink LinkFront := (s.sendNotices ns).links

/-- A delivery record with the valve stage CLOSED (R76). -/
def closedValve (d : Delivery) : Delivery := { d with preset := { d.preset with stage := .closed } }

/-- A line out of FLOWING in PAUSED (R43, R52): valve CLOSED, no timer running. -/
def paused (c : PauseCause) (ln : Line) : Line :=
  { ln with
    state := .paused
    delivery := { closedValve ln.delivery with pauseCause := some c }
    windowRunning := false
    quietRunning := false
    capRunning := false }

/-- A line in HALTED (R43, R60): valve CLOSED, no timer running. -/
def halted (c : HaltCause) (ln : Line) : Line :=
  { ln with
    state := .halted
    delivery := { closedValve ln.delivery with haltCause := some c }
    windowRunning := false
    quietRunning := false
    capRunning := false }

/-- A line in SETTLING (R66, R91): the end cause set, the staged top-up discarded and the staged targets equal to the
loaded ones, the valve CLOSED, the quiet and the cap timer running. -/
def settled (c : EndCause) (ln : Line) : Line :=
  { ln with
    state := .settling
    delivery := { ln.delivery with
      endCause := some c
      preset := { ln.delivery.preset with
        stagedTop := 0
        stagedStop := ln.delivery.preset.stop
        stagedSlow := ln.delivery.preset.slow
        stage := .closed } }
    windowRunning := false
    quietRunning := true
    capRunning := true }

/-- A line in FLOWING with a new flow window (R10): nA, nB and the zero-window run 0, the band MAIN. -/
def flowing (ln : Line) : Line :=
  { ln with
    state := .flowing
    delivery := { ln.delivery with counts := { ln.delivery.counts with nA := 0, nB := 0, band := .main, zeroRun := 0 } }
    windowRunning := true
    quietRunning := false
    capRunning := false }

/-- A delivery record after a load, steps 1 to 4 (R84). -/
def loaded (d : Delivery) : Delivery :=
  let top := d.preset.loadedTop + d.preset.stagedTop
  { d with preset := { d.preset with
      loadedTop := top
      stagedTop := 0
      stop := d.stopFor top
      slow := d.slowFor top
      stagedStop := d.stopFor top
      stagedSlow := d.slowFor top
      stage := if d.counts.g < d.slowFor top then .full else if d.counts.g < d.stopFor top then .trickle else .closed } }

/-- The end cause of a stop target reached (R65): PRESET for VOLUME, CAPACITY for FILL. -/
def targetCause (d : Delivery) : EndCause := if d.preset.kind = some .fill then .capacity else .preset

/-- A line in IDLE or UNVERIFIED after a delivery (R64, R69, R72): from a state in which pulses counted into the delivery a
new unticketed stay opens (R9, R19). -/
def freed (st : LineState) (ln : Line) : Line :=
  { ln with
    state := st
    delivery := closedValve ln.delivery
    windowRunning := false
    quietRunning := false
    capRunning := false
    stayOpen := ln.stayOpen || !ln.state.isUnticketed
    stayLogged := ln.stayLogged && ln.state.isUnticketed }

/-- The record of a new delivery (R1, R24, R42, R46, R50, R83): counts 0 in band MAIN, no sample, running VCF 1,000,000, the
targets of P on either basis P × 1,000, no causes, no flags but CLOCK_UNSET. -/
def armedDelivery (mode : Mode) (slot : Option SlotNo) (product : Product) (latched : Latched) (identity : Identity)
    (armTime : Option Nat) (openTot : Nat) (amount : Option Nat) : Delivery :=
  let stop := amount.getD 9999999 * 1000
  let slow := stop - latched.settings.slowDown.toNat * 1000
  { mode := some mode
    slot := slot
    product := product
    latched := latched
    checkCode := latchCode latched
    identity := identity
    armTime := armTime
    endTime := none
    openTot := openTot
    closeTot := 0
    counts := ⟨0, .main, 0, 0, 0, 0, 0, 0, 0, 0⟩
    corr := ⟨0, none, none, 1000000⟩
    preset := ⟨some (if amount.isSome then .volume else .fill), amount, 0, 0, stop, slow, stop, slow, .closed⟩
    pauseCause := none
    haltCause := none
    endCause := none
    flags := ⟨false, false, armTime.isNone, false, false, false, false⟩
    ticketNumber := none
    final := none
    ticket := none
    testRun := none }

/-- A line in ARMED with a new delivery (R7, R46): the idle product is the delivery's and the unticketed stay is closed. -/
def armed (d : Delivery) (ln : Line) : Line :=
  { ln with
    state := .armed
    delivery := d
    idleProduct := d.product
    stayOpen := false
    stayLogged := false
    windowRunning := false
    quietRunning := false
    capRunning := false }

/-- What a pairing of line and product needs to be armed (R44 checks 6 and 7, R49 checks 4 and 5): both live records VALID
and no calibration write pending on the delivery's three records. -/
structure Pairs (s : State) (l : LineId) (p : Product) : Prop where
  product : (s.cal.shadows.product.get p).valid = true
  meter : ((s.cal.shadows.meter.get l).get p).valid = true
  quiet : ∀ r w, s.cal.pendingWrite = some (r, w) → r ≠ .line l ∧ r ≠ .meter l p ∧ r ≠ .product p

/-- A live record agrees with its reference check (R164). -/
def agrees (s : State) (r : RecordId) : Prop := recordCheck (s.cal.shadows.get r).1 (s.cal.shadows.get r).2 = s.cal.refs.get r

/-- The records of a list that disagree with their reference checks (R164). -/
def disagreeing (s : State) (rs : List RecordId) : List RecordId :=
  rs.filter (fun r => recordCheck (s.cal.shadows.get r).1 (s.cal.shadows.get r).2 ≠ s.cal.refs.get r)

/-- The integrity sweep of an arm finds no mismatch (R44 check 7a, R164). -/
def Swept (s : State) (l : LineId) (p : Product) : Prop := agrees s (.line l) ∧ agrees s (.meter l p) ∧ agrees s (.product p)

/-- The copies a delivery latches beside its order and plan (R46 step 3). -/
def copies (s : State) (l : LineId) (p : Product) (order : Option OrderCopy) (plan : Option PlanCopy) : Latched :=
  ⟨order, (s.cal.shadows.product.get p).contents, ((s.cal.shadows.meter.get l).get p).contents,
    (s.cal.shadows.line.get l).contents, s.cal.settings.get p, plan⟩

/-! ## Counting and sampling, in the words of chapters 1 and 2 -/

/-- The increment of a pulse at its new frame position (R4). -/
def pulseIncrement (f : Factor) (p : Nat) : Nat :=
  if p * f.t.toNat / 16 > (p - 1) * f.t.toNat / 16 then f.b.toNat + 1 else f.b.toNat

/-- The frame position after a pulse (R3). -/
def advanced (p : Nat) : Nat := if p = 16 then 1 else p + 1

/-- The pair (B, T) of a delivery's pulse (R2): its latched METER_FACTOR copy, the band in force. -/
def pulseFactor (d : Delivery) : Factor :=
  match d.counts.band with
  | .low => d.latched.meter.low
  | .main => d.latched.meter.main
  | .high => d.latched.meter.high

/-- A line with a pulse counted into its open delivery (R3 to R6, R20). -/
def counted (ln : Line) : Line :=
  let c := ln.delivery.counts
  let inc := pulseIncrement (pulseFactor ln.delivery) (advanced c.framePos)
  { ln with
    totalizer := (ln.totalizer + inc) % 1000000000000000
    delivery := { ln.delivery with counts := { c with
      framePos := advanced c.framePos
      g := (c.g + inc) % 100000000000000000
      gp := (c.gp + inc) % 100000000000000000 } } }

/-- A line with one more creep pulse (R5): the count stays at 65,535. -/
def crept (ln : Line) : Line :=
  { ln with delivery := { ln.delivery with counts := { ln.delivery.counts with
      creep := min 65535 (ln.delivery.counts.creep + 1) } } }

/-- The corrected value of a raw probe reading (R26). -/
def corrected (d : Delivery) (raw : BitVec 16) : Int := raw.toInt + d.latched.line.probeOffset.toInt

/-- A corrected value is valid (R26). -/
abbrev validSample (t : Int) : Prop := -4000 ≤ t ∧ t ≤ 6000

/-- A delivery record after a sample (R27 to R29, R33): Gp weighted at the corrected value or, when it is invalid, at the
fallback temperature, and the running correction recomputed. -/
def weighted (d : Delivery) (raw : BitVec 16) : Delivery :=
  let t := corrected d raw
  let valid := -4000 ≤ t ∧ t ≤ 6000
  let fallback := d.latched.product.fallback.toInt
  let w := d.corr.w + d.counts.gp * (if valid then t else fallback)
  let gs := (d.counts.gs + d.counts.gp) % 100000000000000000
  let last := if valid then some t else d.corr.lastValid
  let average := if gs = 0 then last.getD fallback else roundHalfAway w gs
  { d with
    counts := { d.counts with gs := gs, gp := 0 }
    corr := if gs = 0 ∧ last = none then ⟨w, last, none, 1000000⟩
      else ⟨w, last, some average, vcfOf d.latched.product.alpha.toNat average⟩
    flags := if valid then d.flags
      else { d.flags with probeFault := true, tempSubst := d.flags.tempSubst || decide (0 < d.counts.gp) } }

/-- A line after a sample (R23, R26 to R29). -/
def sampled (ln : Line) (raw : BitVec 16) : Line :=
  let t := corrected ln.delivery raw
  { ln with
    delivery := weighted ln.delivery raw
    temp := if -4000 ≤ t ∧ t ≤ 6000 then ⟨some raw.toInt, some t, false, some t⟩
      else ⟨some raw.toInt, some t, true, ln.temp.lastValid⟩ }

/-- A sample is the first invalid one of its delivery, which makes a PROBE_FAULT entry (R28). -/
abbrev firstInvalid (d : Delivery) (raw : BitVec 16) : Prop := ¬ validSample (corrected d raw) ∧ d.flags.probeFault = false

/-! ## The flow window and the close, in the words of chapters 1 to 3 -/

/-- The mismatch strikes after step 1 of an expiry (R14). -/
def nextStrikes (d : Delivery) : Nat :=
  let gap := if d.counts.nA ≤ d.counts.nB then d.counts.nB - d.counts.nA else d.counts.nA - d.counts.nB
  if d.latched.line.tolerance.toNat < gap then min 2 (d.counts.strikes + 1) else 0

/-- The zero-window run after step 3 of an expiry (R16). -/
def nextRun (d : Delivery) : Nat := if d.counts.nA = 0 then d.counts.zeroRun + 1 else 0

/-- A line after steps 1 to 3 of an expiry (R14 to R16): strikes, band for the next window (LOW where a disturbed LINE copy lets
LOW and HIGH both hold, log 42), zero-window run. -/
def judged (ln : Line) : Line :=
  { ln with delivery := { ln.delivery with counts := { ln.delivery.counts with
      strikes := nextStrikes ln.delivery
      band := if ln.delivery.counts.nA ≤ ln.delivery.latched.line.lowMax.toNat then .low
        else if ln.delivery.latched.line.highMin.toNat ≤ ln.delivery.counts.nA then .high else .main
      zeroRun := nextRun ln.delivery } } }

/-- A line after step 8 of an expiry (R12): nA and nB 0. -/
def windowCleared (ln : Line) : Line :=
  { ln with delivery := { ln.delivery with counts := { ln.delivery.counts with nA := 0, nB := 0 } } }

/-- The RUNNING_TOTAL notice of a delivery (R22, R34, R193): line, gross_cL, running billed quantity within the capacity (log
38), band of the next window. -/
def runningTotal (l : LineId) (d : Delivery) : Notice :=
  let gross := d.counts.g / 1000
  let billed := match d.latched.product.basis with
    | .gross => gross
    | .net => d.counts.g * d.corr.runVcf / 1000000000
  ⟨.reel, .runningTotal, beBytes 1 (lineNo l) ++ beBytes 6 gross ++ beBytes 3 (min 9999999 billed)
    ++ [bandByte d.counts.band]⟩

/-- A sample's PROBE_FAULT entry (R28). -/
def probeEntry (s : State) (l : LineId) (d : Delivery) (raw : BitVec 16) : FaultEntry :=
  ⟨s.stamp, .probeFault, some l, BitVec.ofInt 32 (corrected d raw)⟩

/-- The part once a sample has made its entry, if it is the first invalid one (R28). -/
def probed (s : State) (l : LineId) (d : Delivery) (raw : BitVec 16) : State :=
  if firstInvalid d raw then s.logFault (probeEntry s l d raw) else s

/-- The notices of a sample (R28, R202). -/
def probeNotices (s : State) (l : LineId) (d : Delivery) (raw : BitVec 16) : List Notice :=
  if firstInvalid d raw then faultNotices (probeEntry s l d raw) else []

/-- A line whose count is closed (R8, R68 steps 1 and 2): close totalizer and end time recorded. -/
def countClosed (s : State) (ln : Line) : Line :=
  { ln with delivery := { ln.delivery with
      closeTot := ln.totalizer
      endTime := s.stamp
      flags := { ln.delivery.flags with clockUnset := ln.delivery.flags.clockUnset || s.stamp.isNone } } }

/-- A line that goes from SETTLING to RECORDING (R8, R19, R70, R71): a new unticketed stay opens. -/
def recording (ln : Line) : Line :=
  { ln with
    state := .recording
    delivery := closedValve ln.delivery
    windowRunning := false
    quietRunning := false
    capRunning := false
    stayOpen := true
    stayLogged := false }

/-- The state a line takes when its delivery has ended (R69, R72). -/
def restState (s : State) (l : LineId) : LineState :=
  if (s.line l).delivery.haltCause = some .calIntegrity ∨ (s.cal.shadows.line.get l).valid = false ∨ s.cal.consistent = false
  then .unverified else .idle

/-! ## Recovery, in the words of chapters 2 and 9 -/

/-- A delivery record after the recovery sample (R30): Gp weighted at the last valid temperature or, when there is none, at
the fallback temperature, and the running correction recomputed; no probe is read and PROBE_FAULT stays as it is. -/
def recoverySampled (d : Delivery) : Delivery :=
  let fallback := d.latched.product.fallback.toInt
  let w := d.corr.w + d.counts.gp * d.corr.lastValid.getD fallback
  let gs := (d.counts.gs + d.counts.gp) % 100000000000000000
  let average := if gs = 0 then d.corr.lastValid.getD fallback else roundHalfAway w gs
  { d with
    counts := { d.counts with gs := gs, gp := 0 }
    corr := if gs = 0 ∧ d.corr.lastValid = none then ⟨w, none, none, 1000000⟩
      else ⟨w, d.corr.lastValid, some average, vcfOf d.latched.product.alpha.toNat average⟩
    flags := { d.flags with
      tempSubst := d.flags.tempSubst || (d.corr.lastValid.isNone && decide (0 < d.counts.gp)) } }

/-- The record of a snapshot's delivery as recovery finishes it (R178, R180): sampled, with the snapshot's totalizer as the
close totalizer and no end time. -/
def recoveredRecord (x : Snapshot) : Delivery :=
  { recoverySampled x.delivery with closeTot := x.totalizer, endTime := none }

/-- The record a recovered SALE's ticket is computed from (R178). -/
def recoveredSale (x : Snapshot) (cause : RestartCause) (n : Nat) : Delivery :=
  { recoveredRecord x with
    ticketNumber := some n
    endCause := some (match cause with | .power => .power | .reset => .reset)
    flags := { (recoveredRecord x).flags with interrupted := true } }

/-- A snapshot of an open delivery of a mode with G > 0 (R177). -/
abbrev openWith (x : Snapshot) (m : Mode) : Prop :=
  x.state.isOpen = true ∧ x.delivery.mode = some m ∧ 0 < x.delivery.counts.g

/-- A stored snapshot of a SALE in RECORDING whose ticket number the stored journal does not hold (R179). -/
def unheld (st : Store) (x : Snapshot) (n : Nat) : Prop :=
  x.state = .recording ∧ x.delivery.mode = some .sale ∧ x.delivery.ticketNumber = some n ∧
    ¬ (st.header.oldestNumber ≤ n ∧ n < st.header.oldestNumber + st.header.count)

/-- The next ticket number after a load (R145): the least that is not below the stored one and above every number held in a
RECORDING snapshot whose ticket the journal does not hold. -/
structure NextAfterLoad (st : Store) (n : Nat) : Prop where
  stored : st.nextNumber ≤ n
  above : ∀ l m, unheld st (st.snapshots.get l) m → m < n
  least : ∀ k, st.nextNumber ≤ k → (∀ l m, unheld st (st.snapshots.get l) m → m < k) → n ≤ k

/-- The entries of a load (R162, R163): CAL_CORRECTED for a record with one wrong bit and CAL_UNCORRECTABLE for one with more, in
record-id order, and then CAL_UNCORRECTABLE with 14 for a stored checksum that fails its code (log 13), each with the time of
the load. -/
def loadEntries (time : Option Nat) (st : Store) : List FaultEntry :=
  allRecords.flatMap (fun r =>
    let wrong := bitDistance (heldBytes (st.records.get r).1 (st.records.get r).2)
      (heldBytes (st.sealed.get r).1 (st.sealed.get r).2)
    if wrong = 0 then []
    else [⟨time, if wrong = 1 then .calCorrected else .calUncorrectable, none, BitVec.ofNat 32 (recordNo r)⟩])
  ++ if st.checksumFails then [⟨time, .calUncorrectable, none, 14⟩] else []

/-- The entries of the start-up check of the journal (R145): one for each entry whose code fails, oldest first, with its number
by position. -/
def damagedEntries (st : Store) : List FaultEntry :=
  (List.range st.header.count).flatMap (fun i =>
    if ticketGood ((st.places[(Fin.ofNat 256 (st.header.oldestPlace + i) : Fin 256)]).getD []) then []
    else [⟨none, .journalDamaged, none, BitVec.ofNat 32 (st.header.oldestNumber + i)⟩])

/-- The entries of the lines whose held snapshot holds a delivery (R181), line A before line B: the ticket number of a SALE with
G > 0 is the one its snapshot holds once recovery has numbered it. -/
def interruptedEntries (cause : RestartCause) (held : PerLine Snapshot) : List FaultEntry :=
  [LineId.a, LineId.b].flatMap (fun l =>
    let x := held.get l
    if x.state = .idle ∨ x.state = .unverified then []
    else [⟨none, match cause with | .power => .powerInterrupted | .reset => .resetInterrupted, some l,
      if x.delivery.mode = some .sale ∧ 0 < x.delivery.counts.g then BitVec.ofNat 32 (x.delivery.ticketNumber.getD 0) else 0⟩])

/-- The units of recovery and restart in the engine, in the order handed over: all but the fault-log write. -/
def recoveryUnits (s : State) : List WriteUnit :=
  ((s.engine.inFlight.toList.map InFlight.unit) ++ s.engine.queue).filter (· ≠ .faultLog)

/-- A unit that start-up hands over before another (R175 step 5, R177): appends in ascending number, then test records, line A
before line B, then the restart update. -/
def handedBefore : WriteUnit → WriteUnit → Prop
  | .journalAppend _ _ n _ _, .journalAppend _ _ m _ _ => n ≤ m
  | .journalAppend .., .testRecord .. => True
  | .testRecord l _ _, .testRecord m _ _ => l = .a ∧ m = .b
  | .journalAppend .., .restartUpdate .. | .testRecord .., .restartUpdate .. => True
  | _, _ => False

/-- A journal append. -/
def isAppend : WriteUnit → Bool
  | .journalAppend .. => true
  | .calibration .. | .testRecord .. | .restartUpdate .. | .faultLog => false

/-- A test record. -/
def isTestRecord : WriteUnit → Bool
  | .testRecord .. => true
  | .journalAppend .. | .calibration .. | .restartUpdate .. | .faultLog => false

/-- A unit is in flight or waits. -/
def inEngine (s : State) (u : WriteUnit) : Prop := u ∈ s.engine.queue ∨ ∃ f, s.engine.inFlight = some f ∧ f.unit = u

/-! ## Runs -/

/-- Commands taken one after the other. -/
def runCommands : List Instr → State → Host.Outcome State Fault Refusal
  | [], s => .next s
  | c :: cs, s =>
    match exec c s with
    | .next t => runCommands cs t
    | .fault f => .fault f
    | .refused r => .refused r

/-- A command that is a request. -/
def isRequest : Instr → Bool
  | .loadOrder .. | .withdrawOrder .. | .readOrders .. | .writePlan .. | .readPlan .. | .writeProductSettings ..
  | .setClock .. | .readTicket .. | .ackTickets .. | .stopLine .. | .readStatus .. | .readFaultLog .. | .readTotals ..
  | .readAudit .. | .searchOrder .. | .arm .. | .start .. | .pause .. | .resume .. | .add .. | .endDelivery ..
  | .disarm .. | .readLine .. | .readRecord .. | .writeRecord .. | .armTest .. | .clearFaultLog .. | .readChecksum ..
  | .unknownRequest .. | .linkByteReceived .. => true
  | .frameDiscarded .. | .lineError .. | .receiveGapTimeout .. | .frameTransmitted .. | .pickup1Pulse .. | .pickup2Pulse ..
  | .airAsserted .. | .airReleased .. | .estopAsserted | .estopReleased | .pumpFaultAsserted | .pumpFaultReleased
  | .inspectionSwitchOpened | .inspectionSwitchClosed | .powerFailWarning | .resetAsserted | .powerFailWarningCleared
  | .resetReleased | .restartSaveWritten | .startUpSequence | .startUpFinish | .flowWindowExpiry .. | .quietTimerExpiry ..
  | .capTimerExpiry .. | .sweepTimerExpiry | .clockSecond | .journalAppendCompletion | .calibrationWriteCompletion
  | .testRecordCompletion | .restartUpdateCompletion | .faultLogWriteCompletion | .shadowUpset ..
  | .latchedCopyDisturbed .. | .storedTicketDamage .. | .storedCalibrationDamage .. => false

/-- A command that writes the nonvolatile store, or damages what is stored (R140, R144, R163). -/
def writesStore : Instr → Bool
  | .restartSaveWritten | .journalAppendCompletion | .calibrationWriteCompletion | .testRecordCompletion
  | .restartUpdateCompletion | .faultLogWriteCompletion | .storedTicketDamage .. | .storedCalibrationDamage .. => true
  | .loadOrder .. | .withdrawOrder .. | .readOrders .. | .writePlan .. | .readPlan .. | .writeProductSettings ..
  | .setClock .. | .readTicket .. | .ackTickets .. | .stopLine .. | .readStatus .. | .readFaultLog .. | .readTotals ..
  | .readAudit .. | .searchOrder .. | .arm .. | .start .. | .pause .. | .resume .. | .add .. | .endDelivery ..
  | .disarm .. | .readLine .. | .readRecord .. | .writeRecord .. | .armTest .. | .clearFaultLog .. | .readChecksum ..
  | .unknownRequest .. | .linkByteReceived .. | .frameDiscarded .. | .lineError .. | .receiveGapTimeout ..
  | .frameTransmitted .. | .pickup1Pulse .. | .pickup2Pulse .. | .airAsserted .. | .airReleased .. | .estopAsserted
  | .estopReleased | .pumpFaultAsserted | .pumpFaultReleased | .inspectionSwitchOpened | .inspectionSwitchClosed
  | .powerFailWarning | .resetAsserted | .powerFailWarningCleared | .resetReleased | .startUpSequence | .startUpFinish
  | .flowWindowExpiry .. | .quietTimerExpiry .. | .capTimerExpiry .. | .sweepTimerExpiry | .clockSecond
  | .shadowUpset .. | .latchedCopyDisturbed .. => false

/-! ## Metering and valves -/

/-- The counts of a delivery record within their ranges, G split into Gs and Gp, and the running VCF within its range (R1,
R6, R32). -/
structure CountsOk (d : Delivery) : Prop where
  gross : d.counts.g < grossWrap ∧ d.counts.gp < grossWrap ∧ d.counts.gs < grossWrap
  split : d.counts.g = (d.counts.gs + d.counts.gp) % grossWrap
  frame : d.counts.framePos ≤ 16
  window : d.counts.nA ≤ 65535 ∧ d.counts.nB ≤ 65535
  tallies : d.counts.strikes ≤ 2 ∧ d.counts.creep ≤ 65535
  vcf : 900000 ≤ d.corr.runVcf ∧ d.corr.runVcf ≤ 1100000

/-- A totalizer reading is the open totalizer plus G, modulo 10¹⁵ (R8, R20). -/
def balances (d : Delivery) (reading : Nat) : Prop := reading = (d.openTot + d.counts.g) % totalizerWrap

/-- A line's counts, valve and timers (R8, R10, R19, R20, R66, R76). -/
structure LineOk (running : Prop) (ln : Line) : Prop where
  counts : CountsOk ln.delivery
  totals : ln.totalizer < totalizerWrap ∧ ln.unticketed < totalizerWrap
  valve : ln.state ≠ .flowing → ln.delivery.preset.stage = .closed
  timers : (ln.windowRunning = true → ln.state = .flowing)
    ∧ (ln.quietRunning = true ∨ ln.capRunning = true → ln.state = .settling)
  stay : ln.stayOpen = ln.state.isUnticketed
  openBalance : running → ln.state.isOpen = true → balances ln.delivery ln.totalizer
  closeBalance : ln.state = .recording → balances ln.delivery ln.delivery.closeTot

/-- A snapshot's counts (R172, R178). -/
structure SnapshotOk (x : Snapshot) : Prop where
  counts : CountsOk x.delivery
  totals : x.totalizer < totalizerWrap ∧ x.unticketed < totalizerWrap
  openBalance : x.state.isOpen = true → balances x.delivery x.totalizer
  closeBalance : x.state = .recording → balances x.delivery x.delivery.closeTot

/-- What every run keeps of metering and valves. -/
structure MeterInv (s : State) : Prop where
  line : ∀ l, LineOk (s.restart.phase = .running) (s.line l)
  held : ∀ l, SnapshotOk (s.restart.held.get l)
  stored : ∀ l, SnapshotOk (s.store.snapshots.get l)

/-! ## Queues and counters -/

/-- A link front within its places (R187, R191, R192, R194): 8 waiting frames, 7 in STARTING, none in SAVING and STOPPED,
nothing waiting while nothing is transmitted in RUNNING, and nothing transmitted or pending outside it. -/
structure FrontOk (phase : Phase) (f : LinkFront) : Prop where
  room : f.queue.length ≤ 8 ∧ f.lost ≤ 255
  kept : phase = .starting → f.queue.length ≤ 7
  ended : phase = .saving ∨ phase = .stopped → f.queue = []
  transmits : phase = .running → f.sending = none → f.queue = []
  silent : phase ≠ .running → f.sending = none ∧ f.request = none

/-- The engine's state agrees with what it holds and with the phase (R137 to R139, R144). -/
structure EngineOk (phase : Phase) (e : Engine) : Prop where
  places : e.queue.length ≤ 4
  idle : e.state = .idle → e.inFlight = none ∧ e.queue = []
  writing : e.state = .writing → e.inFlight ≠ none
  ended : e.state = .saving ∨ e.state = .stopped → e.queue = []
  phase : ((phase = .running ∨ phase = .starting) ↔ (e.state = .idle ∨ e.state = .writing)) ∧ (phase = .saving ↔ e.state = .saving)

/-- What a unit carries of a counter is within the counter's range (R140, R157, R171). -/
def UnitOk : WriteUnit → Prop
  | .calibration _ _ _ counter _ => counter ≤ 999999
  | .restartUpdate n _ => n ≤ 65535
  | .journalAppend .. | .testRecord .. | .faultLog => True

/-- What every run keeps of the queues, the ring, the trails and the counters: none passes its places or its largest value,
no more entries are TRANSFERRED than the journal holds, and a trail that is not full is numbered from 1 (R99, R112, R127,
R138, R157, R158, R171, R182, R183, R191, R200). -/
structure BuffersInv (s : State) : Prop where
  front : ∀ link, FrontOk s.restart.phase (s.front link)
  engine : EngineOk s.restart.phase s.engine
  faults : s.faultLog.ring.length ≤ 32 ∧ s.faultLog.overflow.length ≤ 4 ∧ s.faultLog.lost ≤ 255
  audit : s.store.audit.length ≤ 64 ∧ 1 ≤ s.store.auditOldest ∧ s.store.auditOldest ≤ 4294967295
    ∧ (s.store.audit.length < 64 → s.store.auditOldest = 1)
  plans : ∀ n, (s.plan n).length ≤ 8
  counters : s.orders.counter ≤ 4294967295 ∧ s.restart.time < 4294967296
  stored : s.store.eventCounter ≤ 999999 ∧ s.store.interruptions ≤ 65535
  recovered : s.restart.interruptions ≤ 65535 ∧ s.restart.tickets ≤ 2 ∧ s.restart.testRuns ≤ 2 ∧ s.journal.pendingRecovery ≤ 2
  units : ∀ u, inEngine s u → UnitOk u
  transferred : s.journal.header.transferred ≤ s.journal.header.count
    ∧ s.store.header.transferred ≤ s.store.header.count
    ∧ ∀ x, s.engine.inFlight = some x → x.header.transferred ≤ x.header.count ∧ x.ring.length ≤ 32
  ring : s.store.ring.length ≤ 32

end Sys2Proof.Safety
end

