-- ==== Sys2Proof/Certificates/Slice0/Obligations.lean ====
section
/-! DEFINITION. The statements for the provers, each formalising rules of spec/ (OBLIGATIONS.json says which). -/

section

open Sys2Proof Sys2Proof.Machine Sys2Proof.Safety

/-! ## The queue, the outcomes, reset -/

/-- A step takes the command at the front of the queue, whole, with the queue's rest; on an empty queue the part idles (log
2). 95_what_each_step_holds.md: each step is whole and indivisible. -/
def Obligations.StepTakesFrontCommand : Prop :=
  ∀ s : State, (s.pending = [] → step s = .next s) ∧
    ∀ c rest, s.pending = c :: rest → step s = exec c { s with pending := rest }

/-- Every command completes, in every state, and leaves the queue alone. -/
def Obligations.EveryCommandCompletes : Prop :=
  ∀ (c : Instr) (s : State), ∃ t, exec c s = .next t ∧ t.pending = s.pending

/-- The state after reset is what the first start-up makes of the part as it leaves manufacture (the model's choice of where
reset stands: log 1), and it holds the values that the spec gives for the end of the start-up sequence. -/
def Obligations.ResetIsTheFirstStartUp : Prop :=
  runCommands [.startUpSequence, .restartUpdateCompletion, .startUpFinish] State.manufactured = .next State.reset
    ∧ (∀ l, let ln := State.reset.line l
    ln.state = .unverified ∧ ln.delivery.mode = none ∧ ln.delivery.counts = ⟨0, .main, 0, 0, 0, 0, 0, 0, 0, 0⟩
      ∧ ln.delivery.corr = ⟨0, none, none, 1000000⟩ ∧ ln.delivery.preset = ⟨none, none, 0, 0, 0, 0, 0, 0, .closed⟩
      ∧ ln.delivery.pauseCause = none ∧ ln.delivery.haltCause = none ∧ ln.delivery.endCause = none
      ∧ ln.totalizer = 0 ∧ ln.unticketed = 0 ∧ ln.idleProduct = .p0 ∧ ln.stayOpen = true ∧ ln.stayLogged = false
      ∧ ln.temp = ⟨none, none, false, none⟩ ∧ ln.trickleOut = false ∧ ln.mainOut = false)
    ∧ State.reset.pump = false ∧ State.reset.restartHold = false ∧ State.reset.dlvFault = true
    ∧ (∀ n, State.reset.orders.slot n = .free) ∧ State.reset.orders.counter = 0 ∧ (∀ n, State.reset.plan n = [])
    ∧ State.reset.journal = ⟨⟨0, 0, 1, 0⟩, 0, 1, 0, 0⟩ ∧ State.reset.engine = ⟨.idle, none, []⟩
    ∧ (∀ r, (State.reset.cal.shadows.get r).1 = false) ∧ State.reset.cal.consistent = true
    ∧ State.reset.cal.pendingWrite = none ∧ State.reset.cal.lastSweep = none ∧ State.reset.cal.sweepRunning = true
    ∧ (∀ p, State.reset.cal.settings.get p = ⟨[], 2000, 30⟩)
    ∧ State.reset.faultLog = ⟨[], [], 0, none, false⟩
    ∧ State.reset.restart.phase = .running ∧ State.reset.restart.time = 0 ∧ State.reset.restart.clockValid = false
    ∧ State.reset.store.eventCounter = 0 ∧ State.reset.store.audit = [] ∧ State.reset.store.auditOldest = 1
    ∧ (∀ link, (State.reset.front link).request = none ∧ (State.reset.front link).queue = []
        ∧ (State.reset.front link).lost = 0)

/-! ## Link fronts -/

/-- The link front's judgement of a complete frame (R189). A request kind: discarded outside RUNNING (R194), LINK_BUSY while
a request is pending, NOT_PERMITTED on a link not marked for it. Any other kind: UNKNOWN_REQUEST, or LINK_BUSY while a request
is pending. None of these makes anything pending. The kind bytes, the links they are marked for and the refusal codes are those of
the tables (R188, R190). An UNKNOWN_REQUEST of a request kind is that request (log 31). -/
def Obligations.FrontJudgesFrames : Prop :=
  (∀ k, requestByte k = (requestRow k).1 ∧ ∀ link, permitted k link = true ↔ link ∈ (requestRow k).2) ∧
  (∀ kind k, requestOf? kind = some k ↔ (requestRow k).1 = kind) ∧
  (∀ (i : Nat) c, refusalTable[i]? = some c → (refusalByte c).toNat = i + 1) ∧ (∀ c, c ∈ refusalTable) ∧
  (∀ (k : RequestKind) (link : Link) (body : List Byte) (s : State),
    (s.restart.phase ≠ .running → exec (requestCommand k link body) s = .next (s.toHunt link).drive) ∧
    (s.restart.phase = .running → (s.front link).request ≠ none →
      exec (requestCommand k link body) s
        = .next ((s.toHunt link).send link ⟨.refusal .linkBusy, 0x81, [requestByte k, 0x02]⟩).drive) ∧
    (s.restart.phase = .running → (s.front link).request = none → permitted k link = false →
      exec (requestCommand k link body) s
        = .next ((s.toHunt link).send link ⟨.refusal .notPermitted, 0x81, [requestByte k, 0x03]⟩).drive)) ∧
  (∀ (link : Link) (kind : Byte) (body : List Byte) (s : State),
    (∀ k, requestOf? kind = some k → exec (.unknownRequest link kind body) s = exec (requestCommand k link body) s) ∧
    (requestOf? kind = none →
      (s.restart.phase = .running → (s.front link).request = none →
        exec (.unknownRequest link kind body) s
          = .next ((s.toHunt link).send link ⟨.refusal .unknownRequest, 0x81, [kind, 0x04]⟩).drive) ∧
      (s.restart.phase = .running → (s.front link).request ≠ none →
        exec (.unknownRequest link kind body) s
          = .next ((s.toHunt link).send link ⟨.refusal .linkBusy, 0x81, [kind, 0x02]⟩).drive) ∧
      (s.restart.phase ≠ .running → exec (.unknownRequest link kind body) s = .next (s.toHunt link).drive)))

/-- Every request that a front takes becomes pending and gets one reply, ACCEPTED or REFUSED, of its own kind, which finds
a place even in a full queue (R189, R190, R192): premises on the queue as R192 gives them.
A full queue that holds refusals alone gives its oldest up (the model's choice: log 15). -/
def Obligations.EveryTakenRequestIsAnswered : Prop :=
  ∀ (k : RequestKind) (link : Link) (body : List Byte) (s : State), Takes s link k →
    (∀ x ∈ (s.front link).queue, x.tag ≠ .reply) → (s.front link).queue.length ≤ 8 →
    ((s.front link).queue.filter (TxFrame.isNotice .startUp)).length ≤ 1 →
    (∀ x, (s.front link).sending = some x → x.tag ≠ .reply) →
    ∃ t, exec (requestCommand k link body) s = .next t ∧ (t.front link).request = some (k, body) ∧
      ∃ x, (x ∈ (t.front link).queue ∨ (t.front link).sending = some x) ∧ x.tag = .reply ∧
        ((∃ ind data, x.kind = 0x80 ∧ x.body = requestByte k :: ind :: data) ∨
         (∃ c, x.kind = 0x81 ∧ x.body = [requestByte k, refusalByte c]))

/-- FRAME_TRANSMITTED: the frame has gone, its reply ends the pending request, and the oldest waiting frame starts. A frame
handed to a link front joins the newest end of the queue and starts when nothing is transmitted; a queue with no place left (8,
in STARTING 7, where nothing starts) gives up its oldest RUNNING_TOTAL, else its oldest FAULT_RAISED, else its oldest notice but
START_UP, and counts it lost up to 255. With no such notice a new notice is discarded and counted, a new refusal discarded, and
a reply takes the place of the oldest LINK_BUSY. Notices are handed over one by one, in order, each with the kind of its table
(R189, R191 to R194).
Refusals other than LINK_BUSY, and a frame handed over in SAVING or STOPPED, are the model's (log 15, 29). -/
def Obligations.TransmissionEndsAndNextStarts : Prop :=
  (∀ (link : Link) (x : TxFrame) (s : State), s.restart.phase = .running → (s.front link).sending = some x →
    exec (.frameTransmitted link) s = .next (s.setFront link { s.front link with
      sending := (s.front link).queue.head?
      queue := (s.front link).queue.tail
      request := if x.tag = .reply then none else (s.front link).request }).drive) ∧
  ∀ (phase : Phase) (x : TxFrame) (f : LinkFront),
    let notice := fun (k : NoticeKind) (y : TxFrame) => y.tag = .notice k
    let removable := fun (y : TxFrame) => ∃ k, k ≠ .startUp ∧ notice k y
    let busy := fun (y : TxFrame) => y.tag = .refusal .linkBusy
    let refusal := fun (y : TxFrame) => ∃ c, y.tag = .refusal c
    let oldest := fun (p : TxFrame → Prop) (old : List TxFrame) (y : TxFrame) (new : List TxFrame) =>
      f.queue = old ++ y :: new ∧ p y ∧ ∀ z ∈ old, ¬ p z
    let none' := fun (p : TxFrame → Prop) => ∀ z ∈ f.queue, ¬ p z
    let givenUp := fun old y new => oldest (notice .runningTotal) old y new ∨
      none' (notice .runningTotal) ∧ oldest (notice .faultRaised) old y new ∨
      none' (notice .runningTotal) ∧ none' (notice .faultRaised) ∧ oldest removable old y new
    let lost := if f.lost < 255 then f.lost + 1 else 255
    let room := if phase = .running then 8 else 7
    let started := fun (g : LinkFront) =>
      if phase = .running ∧ g.sending = none then { g with sending := g.queue.head?, queue := g.queue.tail } else g
    let becomes := fun (g : LinkFront) => LinkFront.place phase x f = started g
    (phase = .running ∨ phase = .starting →
      (f.queue.length < room → becomes { f with queue := f.queue ++ [x] }) ∧
      (room ≤ f.queue.length → ∀ old y new, givenUp old y new →
        becomes { f with queue := old ++ new ++ [x], lost := lost }) ∧
      (room ≤ f.queue.length → none' removable →
        ((∃ k, notice k x) → becomes { f with lost := lost }) ∧
        (refusal x → becomes f) ∧
        (x.tag = .reply → ∀ old y new, oldest busy old y new ∨ none' busy ∧ oldest refusal old y new →
          becomes { f with queue := old ++ new ++ [x] }))) ∧
    (phase = .saving ∨ phase = .stopped → LinkFront.place phase x f = f) ∧
    ∀ (s : State) (k : NoticeKind) (i : Nat) (link : Link) (bytes : List Byte) (more : List Notice), noticeTable[i]? = some k →
      let placed := LinkFront.place s.restart.phase ⟨.notice k, BitVec.ofNat 8 (0xA0 + i), bytes⟩ (s.links.get link)
      s.sendNotices [] = s ∧ s.sendNotices (⟨link, k, bytes⟩ :: more)
        = State.sendNotices { s with links := s.links.set link placed } more

/-- LINK_BYTE_RECEIVED for the bytes that complete no frame, row by row of the table of R187, and FRAME_DISCARDED, LINE_ERROR
and RECEIVE_GAP_TIMEOUT, which return the receiver to HUNT: nothing but the receiver changes (R185, R187). -/
def Obligations.ReceiverTakesBytes : Prop :=
  ∀ (link : Link) (b : Byte) (s : State),
    let put := fun rx => (s.setFront link { s.front link with rx := rx }).drive
    exec (.frameDiscarded link) s = .next (put .hunt) ∧ exec (.lineError link) s = .next (put .hunt) ∧
    exec (.receiveGapTimeout link) s = .next (put .hunt) ∧
    ((s.front link).rx = .hunt → b = 0xC3 → exec (.linkByteReceived link b) s = .next (put .length)) ∧
    ((s.front link).rx = .hunt → b ≠ 0xC3 → exec (.linkByteReceived link b) s = .next (put .hunt)) ∧
    ((s.front link).rx = .length → 1 ≤ b.toNat → b.toNat ≤ 249 →
      exec (.linkByteReceived link b) s = .next (put (.kind b.toNat))) ∧
    ((s.front link).rx = .length → b.toNat = 0 ∨ 250 ≤ b.toNat →
      exec (.linkByteReceived link b) s = .next (put .hunt)) ∧
    ((s.front link).rx = .kind 1 → exec (.linkByteReceived link b) s = .next (put (.check b [] none))) ∧
    (∀ len, (s.front link).rx = .kind len → 2 ≤ len →
      exec (.linkByteReceived link b) s = .next (put (.body len b []))) ∧
    (∀ len kind got, (s.front link).rx = .body len kind got → got.length + 2 < len →
      exec (.linkByteReceived link b) s = .next (put (.body len kind (got ++ [b])))) ∧
    (∀ len kind got, (s.front link).rx = .body len kind got → len = got.length + 2 →
      exec (.linkByteReceived link b) s = .next (put (.check kind (got ++ [b]) none))) ∧
    (∀ kind body, (s.front link).rx = .check kind body none →
      exec (.linkByteReceived link b) s = .next (put (.check kind body (some b))))

/-- The bytes of a frame, fed one by one to a receiver in HUNT, act as the one command that is the frame, on the part with
its outputs settled; with a second check byte that does not agree they leave the part as it was (R186, R187, R189).
A request command stands for its whole frame (the model's choice: log 3). -/
def Obligations.FrameBytesActAsTheFrame : Prop :=
  ∀ (link : Link) (kind : Byte) (body : List Byte) (s : State), body.length ≤ 248 → (s.front link).rx = .hunt →
    runCommands ((frameBytes kind body).map (Instr.linkByteReceived link)) s = exec (frameCommand link kind body) s.drive ∧
    ∀ b, b ≠ (frameBytes kind body).getLastD 0 →
      runCommands (((frameBytes kind body).dropLast ++ [b]).map (Instr.linkByteReceived link)) s = .next s.drive

/-! ## Requests that only read -/

/-- Every request that only reads changes nothing but its own link, and gives the data of its rule, field by field: READ_STATUS
and READ_LINE with the link's lost-notice count, which is then 0; READ_ORDERS up to four slots; READ_TICKET with the next number
not TRANSFERRED, and a number the journal does not hold refused; READ_FAULT_LOG up to 16 ring entries; READ_AUDIT the entry,
ENTRIES_LOST for a number older than a full trail, or NONE (R22, R74, R101, R116, R134, R161, R169, R170, R192, R203).
The order, the presence and the codes of the fields, where their rules leave them open, an order's tax rate, the check result of
a DAMAGED entry, an audit number that a full or an empty trail does not hold and the code of the clock's valid flag are the
model's (log 9, 16, 17, 18, 21, 39, 43). -/
def Obligations.ReadsChangeNothing : Prop :=
  ∀ (link : Link) (body : List Byte) (s : State),
    let s0 := s.setFront link { s.front link with lost := 0 }
    let lost := (s.front link).lost
    (Takes s link .readStatus → body = [] → exec (.readStatus link body) s
      = .next (answered s0 link .readStatus body (.ok (lineStatus (s.line .a) ++ lineStatus (s.line .b)
        ++ beBytes 2 s.restart.interruptions ++ beBytes 4 s.restart.time ++ [yesByte s.restart.clockValid]
        ++ beBytes 1 lost)))) ∧
    (∀ l, Takes s link .readLine → parseLine body = some l → exec (.readLine link body) s
      = .next (answered s0 link .readLine body (.ok (lineData (s.line l) lost)))) ∧
    (∀ n, Takes s link .readOrders → parseSlot body = some n → exec (.readOrders link body) s
      = .next (answered s link .readOrders body (.ok (ordersData s.orders n)))) ∧
    (∀ key mask, Takes s link .searchOrder → parseSearch body = some (key, mask) → exec (.searchOrder link body) s
      = .next (answered s link .searchOrder body (searchReply s.orders key mask))) ∧
    (∀ n, Takes s link .readPlan → parsePlanNo body = some n → exec (.readPlan link body) s
      = .next (answered s link .readPlan body (.ok (planData n (s.plan n))))) ∧
    (∀ which i, Takes s link .readTicket → parseNumberOrKeyword body = some which → i < s.journal.header.count →
      (match which with
        | some n => n = s.journal.header.oldestNumber + i
        | none => i = s.journal.header.transferred) →
      exec (.readTicket link body) s = .next (answered s link .readTicket body (.ok (ticketData s i)))) ∧
    (∀ which, Takes s link .readTicket → parseNumberOrKeyword body = some which →
      (match which with
        | some n => n < s.journal.header.oldestNumber ∨ s.journal.header.oldestNumber + s.journal.header.count ≤ n
        | none => s.journal.header.count ≤ s.journal.header.transferred) →
      exec (.readTicket link body) s = .next (answered s link .readTicket body (.refused .noSuchTicket))) ∧
    (∀ p, Takes s link .readFaultLog → parsePosition body = some p → exec (.readFaultLog link body) s
      = .next (answered s link .readFaultLog body (.ok (faultLogData s.faultLog p)))) ∧
    (Takes s link .readTotals → body = [] → exec (.readTotals link body) s
      = .next (answered s link .readTotals body (.ok (beBytes 7 (s.line .a).totalizer ++ beBytes 7 (s.line .a).unticketed
        ++ beBytes 7 (s.line .b).totalizer ++ beBytes 7 (s.line .b).unticketed ++ beBytes 2 s.restart.interruptions)))) ∧
    (∀ which, Takes s link .readAudit → parseNumberOrKeyword body = some which →
      let st := s.store
      let gives := fun r => exec (.readAudit link body) s = .next (answered s link .readAudit body r)
      (st.audit = [] → gives (.accepted 0x02 [])) ∧
      (∀ e, st.audit[0]? = some e → which = none → gives (.accepted 0x00 (auditData st 0 e))) ∧
      (st.audit.length ≤ 64 → 1 ≤ st.auditOldest → st.auditOldest ≤ 4294967295 →
        (∀ i e, st.audit[i]? = some e → which = some (auditNumber st i) → gives (.accepted 0x00 (auditData st i e))) ∧
        ∀ k, k < 4294967295 - st.audit.length → which = some (auditNumber st (st.audit.length + k)) →
          (st.audit.length < 64 ∨ k < (4294967295 - 64) / 2 → gives (.accepted 0x02 [])) ∧
          ∀ e, st.audit[0]? = some e → st.audit.length = 64 → (4294967295 - 64) / 2 ≤ k →
            gives (.accepted 0x03 (auditData st 0 e)))) ∧
    (∀ r, Takes s link .readRecord → parseRecordId body = some r → exec (.readRecord link body) s
      = .next (answered s link .readRecord body (.ok (recordData s r)))) ∧
    (Takes s link .readChecksum → body = [] → exec (.readChecksum link body) s
      = .next (answered s link .readChecksum body (.ok (checksumData s))))

/-- A search finds the WAITING order of smallest arrival sequence whose site code agrees with the key under the mask, the
lower slot winning a tie, with all ten fields, and says how many match; with none it answers NONE and a count of 0 (R102, R103).
A reply without a match carries the count alone, and the tax rate's low byte stands at offset 34: the model's choices (log 9,
16). -/
def Obligations.SearchFindsOldestMatch : Prop :=
  ∀ (t : OrderTable) (key mask : BitVec 24),
    let hit := fun (n : SlotNo) (o : Order) => t.slot n = .waiting o ∧ o.copy.site &&& mask = key &&& mask
    ((∀ n o, ¬ hit n o) → searchReply t key mask = .accepted 0x02 [0]) ∧
    (∀ n o, hit n o → (∀ m q, hit m q → o.seq < q.seq ∨ (o.seq = q.seq ∧ n ≤ m)) →
      ∀ all : List SlotNo, all.Nodup → (∀ m, m ∈ all ↔ ∃ q, hit m q) →
        searchReply t key mask = .accepted 0x00 (beBytes 1 n.val ++ orderData o ++ beBytes 1 all.length))

/-- A field outside its range, or a body of a wrong length, is refused with OUT_OF_RANGE and changes nothing but the link;
WRITE_RECORD and CLEAR_FAULT_LOG judge the inspection switch first. Each parser answers none exactly for the bodies outside the
lengths and ranges that the requests' rules give (R44, R49, R90, R97, R100 to R102, R114, R116, R134, R135, R147, R149, R151,
R161, R169, R183, R189, R195, R196, R199, R203).
The tax rate's bytes, the lengths of ADD (4) and ARM_TEST (6), CLEAR_FAULT_LOG's order and the bytes of absent fields are as the
model takes them (log 9, 18, 19, 20). -/
def Obligations.OutOfRangeIsRefused : Prop :=
  ∀ (link : Link) (body : List Byte) (s : State),
    let no := fun k => Host.Outcome.next (answered s link k body (.refused .outOfRange))
    (Takes s link .loadOrder → parseLoadOrder body = none → exec (.loadOrder link body) s = no .loadOrder) ∧
    (Takes s link .withdrawOrder → parseOrderId body = none → exec (.withdrawOrder link body) s = no .withdrawOrder) ∧
    (Takes s link .readOrders → parseSlot body = none → exec (.readOrders link body) s = no .readOrders) ∧
    (Takes s link .searchOrder → parseSearch body = none → exec (.searchOrder link body) s = no .searchOrder) ∧
    (Takes s link .writePlan → parseWritePlan body = none → exec (.writePlan link body) s = no .writePlan) ∧
    (Takes s link .readPlan → parsePlanNo body = none → exec (.readPlan link body) s = no .readPlan) ∧
    (Takes s link .writeProductSettings → parseSettings body = none →
      exec (.writeProductSettings link body) s = no .writeProductSettings) ∧
    (Takes s link .setClock → parseNumber32 body = none → exec (.setClock link body) s = no .setClock) ∧
    (Takes s link .readTicket → parseNumberOrKeyword body = none → exec (.readTicket link body) s = no .readTicket) ∧
    (Takes s link .ackTickets → parseNumber32 body = none → exec (.ackTickets link body) s = no .ackTickets) ∧
    (Takes s link .readFaultLog → parsePosition body = none → exec (.readFaultLog link body) s = no .readFaultLog) ∧
    (Takes s link .arm → parseArm body = none → exec (.arm link body) s = no .arm) ∧
    (Takes s link .armTest → parseArmTest body = none → exec (.armTest link body) s = no .armTest) ∧
    (Takes s link .add → parseAdd body = none → exec (.add link body) s = no .add) ∧
    (Takes s link .start → parseLine body = none → exec (.start link body) s = no .start) ∧
    (Takes s link .pause → parseLine body = none → exec (.pause link body) s = no .pause) ∧
    (Takes s link .resume → parseLine body = none → exec (.resume link body) s = no .resume) ∧
    (Takes s link .endDelivery → parseLine body = none → exec (.endDelivery link body) s = no .endDelivery) ∧
    (Takes s link .disarm → parseLine body = none → exec (.disarm link body) s = no .disarm) ∧
    (Takes s link .stopLine → parseLine body = none → exec (.stopLine link body) s = no .stopLine) ∧
    (Takes s link .readLine → parseLine body = none → exec (.readLine link body) s = no .readLine) ∧
    (Takes s link .readStatus → body ≠ [] → exec (.readStatus link body) s = no .readStatus) ∧
    (Takes s link .readTotals → body ≠ [] → exec (.readTotals link body) s = no .readTotals) ∧
    (Takes s link .readChecksum → body ≠ [] → exec (.readChecksum link body) s = no .readChecksum) ∧
    (Takes s link .readAudit → parseNumberOrKeyword body = none → exec (.readAudit link body) s = no .readAudit) ∧
    (Takes s link .readRecord → parseRecordId body = none → exec (.readRecord link body) s = no .readRecord) ∧
    (Takes s link .writeRecord → s.inputs.inspectionOpen = true → parseWriteRecord body = none →
      exec (.writeRecord link body) s = no .writeRecord) ∧
    (Takes s link .clearFaultLog → s.inputs.inspectionOpen = true → body ≠ [] →
      exec (.clearFaultLog link body) s = no .clearFaultLog) ∧
    (parseLoadOrder body = none ↔ ¬ InRange .loadOrder body) ∧
    (parseOrderId body = none ↔ ¬ InRange .withdrawOrder body) ∧
    (parseSlot body = none ↔ ¬ InRange .readOrders body) ∧
    (parseSearch body = none ↔ ¬ InRange .searchOrder body) ∧
    (parseWritePlan body = none ↔ ¬ InRange .writePlan body) ∧
    (parsePlanNo body = none ↔ ¬ InRange .readPlan body) ∧
    (parseSettings body = none ↔ ¬ InRange .writeProductSettings body) ∧
    (parseNumber32 body = none ↔ ¬ InRange .setClock body) ∧ (parseNumber32 body = none ↔ ¬ InRange .ackTickets body) ∧
    (parseNumberOrKeyword body = none ↔ ¬ InRange .readTicket body) ∧
    (parseNumberOrKeyword body = none ↔ ¬ InRange .readAudit body) ∧
    (parsePosition body = none ↔ ¬ InRange .readFaultLog body) ∧
    (parseArm body = none ↔ ¬ InRange .arm body) ∧ (parseArmTest body = none ↔ ¬ InRange .armTest body) ∧
    (parseAdd body = none ↔ ¬ InRange .add body) ∧
    (∀ k, k = .start ∨ k = .pause ∨ k = .resume ∨ k = .endDelivery ∨ k = .disarm ∨ k = .stopLine ∨ k = .readLine →
      (parseLine body = none ↔ ¬ InRange k body)) ∧
    (∀ k, k = .readStatus ∨ k = .readTotals ∨ k = .readChecksum ∨ k = .clearFaultLog →
      (body ≠ [] ↔ ¬ InRange k body)) ∧
    (parseRecordId body = none ↔ ¬ InRange .readRecord body) ∧
    (parseWriteRecord body = none ↔ ¬ InRange .writeRecord body)

/-! ## Order table, plans, settings, clock, journal and fault-log requests -/

/-- LOAD_ORDER of an id held is refused, and so is one with no FREE slot; otherwise the order takes the FREE slot of lowest
number, with device time and the counter's value, and nothing else moves (R97 to R99). -/
def Obligations.LoadOrderTakesLowestFreeSlot : Prop :=
  ∀ (link : Link) (body : List Byte) (s : State) (o : OrderCopy), Takes s link .loadOrder → parseLoadOrder body = some o →
    let fresh := ∀ m x, (s.orders.slot m).order? = some x → x.copy.orderId ≠ o.orderId
    (¬ fresh → exec (.loadOrder link body) s = .next (answered s link .loadOrder body (.refused .duplicateOrder))) ∧
    (fresh → (∀ m, s.orders.slot m ≠ .free) →
      exec (.loadOrder link body) s = .next (answered s link .loadOrder body (.refused .tableFull))) ∧
    (∀ n, fresh → s.orders.slot n = .free → (∀ m, m < n → s.orders.slot m ≠ .free) →
      exec (.loadOrder link body) s = .next (State.drive { s with
        orders := ⟨s.orders.slots.set n.val (.waiting ⟨o, s.stamp, s.orders.counter⟩) n.isLt,
          if s.orders.counter < 4294967295 then s.orders.counter + 1 else 4294967295⟩
        links := told s link .loadOrder body (.ok (beBytes 1 n.val ++ beBytes 4 s.orders.counter)) [] }))

/-- WITHDRAW_ORDER by what it finds (R100): a WAITING order's slot becomes FREE; a BOUND order or none is refused. -/
def Obligations.WithdrawOrderByState : Prop :=
  ∀ (link : Link) (body : List Byte) (s : State) (id : Nat), Takes s link .withdrawOrder → parseOrderId body = some id →
    let first := fun (n : SlotNo) (o : Order) => o.copy.orderId.toNat = id ∧
      ∀ m q, m < n → (s.orders.slot m).order? = some q → q.copy.orderId.toNat ≠ id
    (∀ n o, s.orders.slot n = .waiting o → first n o →
      exec (.withdrawOrder link body) s = .next (State.drive { s with
        orders := { s.orders with slots := s.orders.slots.set n.val .free n.isLt }
        links := told s link .withdrawOrder body (.ok (beBytes 1 n.val)) [] })) ∧
    (∀ n l o, s.orders.slot n = .bound l o → first n o →
      exec (.withdrawOrder link body) s = .next (answered s link .withdrawOrder body (.refused .orderBound))) ∧
    ((∀ m q, (s.orders.slot m).order? = some q → q.copy.orderId.toNat ≠ id) →
      exec (.withdrawOrder link body) s = .next (answered s link .withdrawOrder body (.refused .orderEmpty)))

/-- WRITE_PLAN replaces the named plan whole when OPEN is at most the last bound and the numeric bounds strictly ascend, and
is refused with BAD_PLAN otherwise (R114, R115); WRITE_PRODUCT_SETTINGS replaces one product's three settings (R149). Nothing
else moves, whatever is latched.
The settings reply is laid out as log 16 says. -/
def Obligations.PlanAndSettingsReplacedWhole : Prop :=
  ∀ (link : Link) (body : List Byte) (s : State),
    (∀ n ts, Takes s link .writePlan → parseWritePlan body = some (n, ts) →
      let good := (∀ t ∈ ts.dropLast, t.bound ≠ none) ∧ (ts.filterMap Tier.bound).Pairwise (fun a b => a.toNat < b.toNat)
      (good → exec (.writePlan link body) s = .next (State.drive { s with
        plans := s.plans.set n.val ts n.isLt
        links := told s link .writePlan body (.ok (beBytes 1 n.val ++ beBytes 1 ts.length)) [] })) ∧
      (¬ good → exec (.writePlan link body) s = .next (answered s link .writePlan body (.refused .badPlan)))) ∧
    (∀ p c, Takes s link .writeProductSettings → parseSettings body = some (p, c) →
      exec (.writeProductSettings link body) s = .next (State.drive { s with
        cal := { s.cal with settings := s.cal.settings.set p c }
        links := told s link .writeProductSettings body (.ok (padTo 12 c.name ++ beBytes 3 c.slowDown.toNat ++ beBytes 1 c.noFlow.toNat)) [] }))

/-- SET_CLOCK sets the device time and marks the clock valid; CLOCK_SECOND counts in phase RUNNING, valid or not, and wraps
(R183). -/
def Obligations.ClockIsSetAndCounts : Prop :=
  (∀ (link : Link) (body : List Byte) (s : State) (t : Nat), Takes s link .setClock → parseNumber32 body = some t →
    exec (.setClock link body) s = .next (State.drive { s with
      restart := { s.restart with time := t, clockValid := true }
      links := told s link .setClock body (.ok (beBytes 4 t)) [] })) ∧
  (∀ s : State, s.restart.phase = .running →
    exec .clockSecond s = .next (State.drive { s with
      restart := { s.restart with
        time := if s.restart.time % 4294967296 = 4294967295 then 0 else (s.restart.time + 1) % 4294967296 } }))

/-- ACK_TICKETS by the three conditions of R135: beyond the newest number refused, at or below what is transferred nothing
changes, otherwise every entry up to the number becomes TRANSFERRED.
The reply is laid out as log 16 says. -/
def Obligations.AckMarksPrefix : Prop :=
  ∀ (link : Link) (body : List Byte) (s : State) (n : Nat), Takes s link .ackTickets → parseNumber32 body = some n →
    s.journal.header.transferred ≤ s.journal.header.count →
    let h := s.journal.header
    ((h.count = 0 ∧ 0 < n) ∨ (h.count ≠ 0 ∧ h.oldestNumber + h.count - 1 < n) →
      exec (.ackTickets link body) s = .next (answered s link .ackTickets body (.refused .ackBeyond))) ∧
    ((h.count = 0 ∧ n = 0) ∨ (h.count ≠ 0 ∧ n ≤ h.oldestNumber + h.count - 1 ∧
        (n = 0 ∨ n < h.oldestNumber + h.transferred ∨ h.transferred = h.count)) →
      exec (.ackTickets link body) s
        = .next (answered s link .ackTickets body (.ok (laid (.fixed (beBytes 2 0) :: summary s.journal))))) ∧
    (h.count ≠ 0 → n ≤ h.oldestNumber + h.count - 1 → n ≠ 0 → h.oldestNumber + h.transferred ≤ n → h.transferred ≠ h.count →
      let j := { s.journal with header := { h with transferred := n - h.oldestNumber + 1 } }
      exec (.ackTickets link body) s = .next (State.drive { s with
        journal := j
        links := told s link .ackTickets body
          (.ok (laid (.fixed (beBytes 2 (n - h.oldestNumber + 1 - h.transferred)) :: summary j))) [] }))

/-- CLEAR_FAULT_LOG with the switch open empties the ring and the overflow, sets the lost count to 0, wants a write and
offers it when none is outstanding; with the switch closed it is refused (R203). -/
def Obligations.FaultLogCleared : Prop :=
  ∀ (link : Link) (s : State), Takes s link .clearFaultLog →
    (s.inputs.inspectionOpen = false → exec (.clearFaultLog link []) s
      = .next (answered s link .clearFaultLog [] (.refused .inspectionClosed))) ∧
    (s.inputs.inspectionOpen = true →
      let s1 := { s with faultLog := ⟨[], [], 0, s.faultLog.outstanding, true⟩ }
      let s2 := if s.faultLog.outstanding = none ∧ s.engine.takesFaultLog = true
        then State.handFaultLog { s with faultLog := ⟨[], [], 0, none, false⟩ } else s1
      exec (.clearFaultLog link []) s = .next (State.drive { s2 with
        links := told s link .clearFaultLog [] (.ok (beBytes 1 (s.faultLog.ring.length + s.faultLog.overflow.length))) [] }))

/-! ## Requests of a delivery cycle controller -/

/-- An ARM that passes every check binds the slot, takes the journal's place (removing the oldest, TRANSFERRED entry of a
full journal), fills the delivery record from the copies and moves the line to ARMED (R7, R24, R44 to R46, R83, R130).
Of a stored checksum with a wrong bit the bits as they stand are recorded: the model's choice (log 41). -/
def Obligations.ArmFillsTheRecord : Prop :=
  ∀ (link : Link) (body : List Byte) (s : State) (l : LineId) (n : SlotNo) (o : Order), Takes s link .arm →
    parseArm body = some (l, n) → (s.line l).state = .idle → s.inputs.inspectionOpen = false → s.inputs.estop = false →
    s.orders.slot n = .waiting o → Pairs s l o.copy.product → Swept s l o.copy.product →
    (∀ k, o.copy.plan = some k → s.plan k ≠ []) → s.journal.nextNumber + s.journal.reservations ≤ 4294967295 →
    (s.journal.header.count + s.journal.reservations < 256 ∨
      0 < s.journal.header.count ∧ 0 < s.journal.header.transferred) →
    let h := s.journal.header
    let ln := armed (armedDelivery .sale (some n) o.copy.product
      (copies s l o.copy.product (some o.copy) (o.copy.plan.map (fun k => ⟨k, s.plan k⟩)))
      ⟨s.store.eventCounter, s.store.checksum⟩ s.stamp (s.line l).totalizer
      (if o.copy.kind = .volume then some o.copy.amount.toNat else none)) (s.line l)
    exec (.arm link body) s = .next (State.drive { s with
      lines := s.lines.set l ln
      orders := { s.orders with slots := s.orders.slots.set n.val (.bound l o) n.isLt }
      journal := { s.journal with
        reservations := s.journal.reservations + 1
        header := if h.count + s.journal.reservations < 256 then h
          else ⟨(h.oldestPlace + 1) % 256, h.count - 1, h.oldestNumber + 1, h.transferred - 1⟩ }
      links := told s link .arm body
        (.ok (beBytes 1 (lineNo l) ++ beBytes 1 n.val ++ beBytes 4 o.copy.orderId.toNat)) (lineNotices l ln false) })

/-- An ARM_TEST that passes every check fills the record with no order, plan or slot and reserves no place (R49, R50).
Of a stored checksum with a wrong bit the bits as they stand are recorded: the model's choice (log 41). -/
def Obligations.ArmTestFillsTheRecord : Prop :=
  ∀ (link : Link) (body : List Byte) (s : State) (l : LineId) (p : Product) (preset : Option Nat), Takes s link .armTest →
    parseArmTest body = some (l, p, preset) → (s.line l).state = .idle → s.inputs.inspectionOpen = true →
    s.inputs.estop = false → Pairs s l p → Swept s l p →
    let ln := armed (armedDelivery .test none p (copies s l p none none) ⟨s.store.eventCounter, s.store.checksum⟩ s.stamp
      (s.line l).totalizer preset) (s.line l)
    exec (.armTest link body) s = .next (State.drive { s with
      lines := s.lines.set l ln
      links := told s link .armTest body (.ok (beBytes 1 (lineNo l) ++ beBytes 1 (productNo p))) (lineNotices l ln false) })

/-- The checks of ARM and ARM_TEST in their order; a refused one changes nothing but the link, except a sweep that finds a
mismatch, which is carried out as a failed sweep (R44, R45, R49). -/
def Obligations.ArmChecksInOrder : Prop :=
  (∀ (link : Link) (body : List Byte) (s : State) (l : LineId) (n : SlotNo), Takes s link .arm →
    parseArm body = some (l, n) →
    let no := fun c => exec (.arm link body) s = .next (answered s link .arm body (.refused c))
    ((s.line l).state = .unverified → no .unverified) ∧
    ((s.line l).state ≠ .unverified → (s.line l).state ≠ .idle → no .lineBusy) ∧
    ((s.line l).state = .idle → s.inputs.inspectionOpen = true → no .inspectionOpen) ∧
    ((s.line l).state = .idle → s.inputs.inspectionOpen = false → s.inputs.estop = true → no .estop) ∧
    ((s.line l).state = .idle → s.inputs.inspectionOpen = false → s.inputs.estop = false →
      (s.orders.slot n = .free → no .orderEmpty) ∧
      (∀ m o, s.orders.slot n = .bound m o → no .orderBound) ∧
      ∀ o, s.orders.slot n = .waiting o → let p := o.copy.product
        ((s.cal.shadows.product.get p).valid = false ∨ ((s.cal.shadows.meter.get l).get p).valid = false →
          no .productUnverified) ∧
        ((s.cal.shadows.product.get p).valid = true → ((s.cal.shadows.meter.get l).get p).valid = true →
          (∃ w, s.cal.pendingWrite = some (.line l, w) ∨ s.cal.pendingWrite = some (.meter l p, w)
            ∨ s.cal.pendingWrite = some (.product p, w)) → no .calBusy) ∧
        (Pairs s l p → ¬ Swept s l p →
          let w := Work.failedSweep (disagreeing s [.line l, .meter l p, .product p]) ⟨asked s link .arm body, []⟩
          exec (.arm link body) s = .next (State.drive
            ((w.st.send link ⟨.reply, 0x81, [0x11, 0x06]⟩).sendNotices w.notes))) ∧
        (Pairs s l p → Swept s l p → (∃ k, o.copy.plan = some k ∧ s.plan k = []) → no .planEmpty) ∧
        (Pairs s l p → Swept s l p → (∀ k, o.copy.plan = some k → s.plan k ≠ []) →
          4294967295 < s.journal.nextNumber + s.journal.reservations ∨
            256 ≤ s.journal.header.count + s.journal.reservations ∧
              (s.journal.header.count = 0 ∨ s.journal.header.transferred = 0) → no .journalFull))) ∧
  (∀ (link : Link) (body : List Byte) (s : State) (l : LineId) (p : Product) (preset : Option Nat),
    Takes s link .armTest → parseArmTest body = some (l, p, preset) →
    let no := fun c => exec (.armTest link body) s = .next (answered s link .armTest body (.refused c))
    ((s.line l).state = .unverified → no .unverified) ∧
    ((s.line l).state ≠ .unverified → (s.line l).state ≠ .idle → no .lineBusy) ∧
    ((s.line l).state = .idle → s.inputs.inspectionOpen = false → no .inspectionClosed) ∧
    ((s.line l).state = .idle → s.inputs.inspectionOpen = true → s.inputs.estop = true → no .estop) ∧
    ((s.line l).state = .idle → s.inputs.inspectionOpen = true → s.inputs.estop = false →
      ((s.cal.shadows.product.get p).valid = false ∨ ((s.cal.shadows.meter.get l).get p).valid = false →
        no .productUnverified) ∧
      ((s.cal.shadows.product.get p).valid = true → ((s.cal.shadows.meter.get l).get p).valid = true →
        (∃ w, s.cal.pendingWrite = some (.line l, w) ∨ s.cal.pendingWrite = some (.meter l p, w)
          ∨ s.cal.pendingWrite = some (.product p, w)) → no .calBusy) ∧
      (Pairs s l p → ¬ Swept s l p →
        let w := Work.failedSweep (disagreeing s [.line l, .meter l p, .product p]) ⟨asked s link .armTest body, []⟩
        exec (.armTest link body) s = .next (State.drive
          ((w.st.send link ⟨.reply, 0x81, [0x22, 0x06]⟩).sendNotices w.notes)))))

/-- START from ARMED and RESUME from PAUSED with no blocking input asserted load the targets; the line goes to FLOWING with
a new flow window when G is below the new stop target, and to SETTLING otherwise (R10, R51, R53, R84, R86, R87).
The fields of the replies, and that a line which goes straight to SETTLING keeps its window counts, its band and its zero-window
run, are the model's (log 16, 44). -/
def Obligations.StartAndResumeLoad : Prop :=
  ∀ (link : Link) (body : List Byte) (s : State) (l : LineId), parseLine body = some l → s.inputs.estop = false →
    s.inputs.pumpFault = false → s.inputs.air.get l = false →
    let ln := { s.line l with delivery := loaded (s.line l).delivery }
    let go := fun (c : Instr) (k : RequestKind) (data : LineState → List Byte) =>
      ((s.line l).delivery.counts.g < ln.delivery.preset.stop → exec c s = .next (State.drive { s with
        lines := s.lines.set l (flowing ln)
        links := told s link k body (.ok (data .flowing)) (lineNotices l (flowing ln) false) })) ∧
      (ln.delivery.preset.stop ≤ (s.line l).delivery.counts.g → exec c s = .next (State.drive { s with
        lines := s.lines.set l (settled (targetCause ln.delivery) ln)
        links := told s link k body (.ok (data .settling))
          (lineNotices l (settled (targetCause ln.delivery) ln) false) }))
    (Takes s link .start → (s.line l).state = .armed →
      go (.start link body) .start (fun st => beBytes 1 (lineNo l) ++ [stateByte st])) ∧
    (Takes s link .resume → (s.line l).state = .paused →
      go (.resume link body) .resume (fun _ => beBytes 1 (lineNo l)))

/-- PAUSE: from FLOWING the line goes to PAUSED with cause DRIVER, its window stopped and its valve CLOSED; in any other
state it is refused and changes nothing but the link (R52).
The reply carries the line alone (log 16). -/
def Obligations.PauseByDriver : Prop :=
  ∀ (link : Link) (body : List Byte) (s : State) (l : LineId), Takes s link .pause → parseLine body = some l →
    ((s.line l).state = .flowing → exec (.pause link body) s = .next (State.drive { s with
      lines := s.lines.set l (paused .driver (s.line l))
      links := told s link .pause body (.ok (beBytes 1 (lineNo l))) (lineNotices l (paused .driver (s.line l)) false) })) ∧
    ((s.line l).state ≠ .flowing → exec (.pause link body) s
      = .next (answered s link .pause body
          (.refused (if (s.line l).state = .unverified then .unverified else .lineBusy))))

/-- ADD on a VOLUME delivery in ARMED, FLOWING or PAUSED stages the amount, cut down to the room left, and recomputes the
staged targets; loaded targets, valve and state stay (R54, R90).
The fields of the reply are the model's (log 16, 18). -/
def Obligations.TopUpIsStaged : Prop :=
  ∀ (link : Link) (body : List Byte) (s : State) (l : LineId) (amount : Nat), Takes s link .add →
    parseAdd body = some (l, amount) →
    (s.line l).state = .armed ∨ (s.line l).state = .flowing ∨ (s.line l).state = .paused →
    let d := (s.line l).delivery
    let used := d.preset.amount.getD 0 + d.preset.loadedTop + d.preset.stagedTop
    let cut := if amount ≤ 9999999 - used then amount else 9999999 - used
    let top := d.preset.loadedTop + (d.preset.stagedTop + cut)
    (d.preset.kind ≠ some .fill → exec (.add link body) s = .next (State.drive { s with
      lines := s.lines.set l { s.line l with delivery := { d with preset := { d.preset with
        stagedTop := d.preset.stagedTop + cut, stagedStop := d.stopFor top, stagedSlow := d.slowFor top } } }
      links := told s link .add body
        (.ok (beBytes 1 (lineNo l) ++ beBytes 3 cut ++ beBytes 5 (d.stopFor top))) [] })) ∧
    (d.preset.kind = some .fill →
      exec (.add link body) s = .next (answered s link .add body (.refused .notPreset)))

/-- END and STOP_LINE take an open delivery to SETTLING with their own end cause, or release it from ARMED with G = 0 as
DISARM does: for a SALE its slot goes back to WAITING and its reservation ends; the line goes to IDLE, or to UNVERIFIED when
calibration no longer vouches for it (R62 to R64, R9, R91).
The replies carry the line alone (log 16). -/
def Obligations.EndStopDisarm : Prop :=
  ∀ (link : Link) (body : List Byte) (s : State) (l : LineId), parseLine body = some l →
    let d := (s.line l).delivery
    let settle := fun (c : Instr) (k : RequestKind) (e : EndCause) =>
      (s.line l).state = .flowing ∨ (s.line l).state = .paused ∨ (s.line l).state = .halted
        ∨ (s.line l).state = .armed ∧ 0 < d.counts.g →
      exec c s = .next (State.drive { s with
        lines := s.lines.set l (settled e (s.line l))
        links := told s link k body (.ok (beBytes 1 (lineNo l))) (lineNotices l (settled e (s.line l)) false) })
    let back : LineState :=
      if (s.cal.shadows.line.get l).valid = true ∧ s.cal.consistent = true then .idle else .unverified
    let ln := freed back { s.line l with delivery := { d with preset := { d.preset with
      stagedTop := 0, stagedStop := d.preset.stop, stagedSlow := d.preset.slow } } }
    let release := fun (c : Instr) (k : RequestKind) =>
      (s.line l).state = .armed → d.counts.g = 0 →
      (d.mode = some .test → exec c s = .next (State.drive { s with
        lines := s.lines.set l ln
        links := told s link k body (.ok (beBytes 1 (lineNo l))) (lineNotices l ln false) })) ∧
      (∀ n m o, d.mode = some .sale → d.slot = some n → s.orders.slot n = .bound m o →
        exec c s = .next (State.drive { s with
          lines := s.lines.set l ln
          orders := { s.orders with slots := s.orders.slots.set n.val (.waiting o) n.isLt }
          journal := { s.journal with reservations := s.journal.reservations - 1 }
          links := told s link k body (.ok (beBytes 1 (lineNo l))) (lineNotices l ln false) }))
    (Takes s link .endDelivery → settle (.endDelivery link body) .endDelivery .driverEnd ∧
      release (.endDelivery link body) .endDelivery) ∧
    (Takes s link .stopLine → settle (.stopLine link body) .stopLine .cabStop ∧
      release (.stopLine link body) .stopLine) ∧
    (Takes s link .disarm → release (.disarm link body) .disarm)

/-- The rest of the table of section 3.10: each line request in a state that does not take it, and the blocking inputs in
their order, is answered so and changes nothing but the link (R41, R51, R53, R54, R61 to R66, R72).
The field of an ALREADY_ENDING reply is the model's (log 16). -/
def Obligations.LineRequestsTurnedAway : Prop :=
  ∀ (link : Link) (body : List Byte) (s : State) (l : LineId),
    let st := (s.line l).state
    let busy : Reply := .refused (if st = .unverified then .unverified else .lineBusy)
    let blocked : Option RefusalCode := if s.inputs.estop = true then some .estop
      else if s.inputs.pumpFault = true then some .pumpFault else if s.inputs.air.get l = true then some .air else none
    let ending := st = .settling ∨ st = .recording
    let already : Reply := .accepted 0x01 (beBytes 1 (lineNo l))
    (Takes s link .start → parseLine body = some l →
      (st ≠ .armed → exec (.start link body) s = .next (answered s link .start body busy)) ∧
      (∀ c, st = .armed → blocked = some c →
        exec (.start link body) s = .next (answered s link .start body (.refused c)))) ∧
    (Takes s link .resume → parseLine body = some l →
      (st ≠ .paused → exec (.resume link body) s = .next (answered s link .resume body busy)) ∧
      (∀ c, st = .paused → blocked = some c →
        exec (.resume link body) s = .next (answered s link .resume body (.refused c)))) ∧
    (∀ amount, Takes s link .add → parseAdd body = some (l, amount) → st ≠ .armed → st ≠ .flowing → st ≠ .paused →
      exec (.add link body) s = .next (answered s link .add body busy)) ∧
    (Takes s link .endDelivery → parseLine body = some l →
      (ending → exec (.endDelivery link body) s = .next (answered s link .endDelivery body already)) ∧
      (st = .idle ∨ st = .unverified →
        exec (.endDelivery link body) s = .next (answered s link .endDelivery body busy))) ∧
    (Takes s link .stopLine → parseLine body = some l →
      (ending → exec (.stopLine link body) s = .next (answered s link .stopLine body already)) ∧
      (st = .idle ∨ st = .unverified →
        exec (.stopLine link body) s = .next (answered s link .stopLine body busy))) ∧
    (Takes s link .disarm → parseLine body = some l → ¬ (st = .armed ∧ (s.line l).delivery.counts.g = 0) →
      exec (.disarm link body) s = .next (answered s link .disarm body busy))

/-! ## Calibration requests and the fault log -/

/-- WRITE_RECORD in the order of its checks; an accepted one hands the engine a unit with the new record, its check, the
checksum over the reference checks with the new one in its place, the counter's next value and the CAL_CHANGE entry, and
changes no shadow and nothing stored (R150 to R153, R157). -/
def Obligations.RecordWriteByChecks : Prop :=
  ∀ (link : Link) (body : List Byte) (s : State), Takes s link .writeRecord →
    let no := fun code => exec (.writeRecord link body) s = .next (answered s link .writeRecord body (.refused code))
    (s.inputs.inspectionOpen = false → no .inspectionClosed) ∧
    ∀ c, s.inputs.inspectionOpen = true → parseWriteRecord body = some c →
      let held := ∃ l, (s.line l).state.holds = true ∧
        (c.id = .line l ∨ c.id = .meter l (s.line l).delivery.product ∨ c.id = .product (s.line l).delivery.product)
      (held → no .inUse) ∧
      (¬ held → s.cal.pendingWrite ≠ none → no .calBusy) ∧
      (¬ held → s.cal.pendingWrite = none → 999999 ≤ s.store.eventCounter → no .counterExhausted) ∧
      (¬ held → s.cal.pendingWrite = none → s.store.eventCounter < 999999 →
        let counter := s.store.eventCounter + 1
        let check := recordCheck true c
        let old := if (s.cal.shadows.get c.id).1 = true then some (s.cal.shadows.get c.id).2 else none
        let unit := WriteUnit.calibration c check (s.cal.refs.put check c.id).checksum counter
          (.calChange counter s.stamp old c)
        let links := told s link .writeRecord body (.ok (beBytes 1 (recordNo c.id) ++ beBytes 4 counter)) []
        (s.engine.state = .idle → exec (.writeRecord link body) s = .next (State.drive { s with
          cal := { s.cal with pendingWrite := some (c.id, .inFlight) }
          engine := { s.engine with
            state := .writing
            inFlight := some ⟨unit, s.journal.header, s.journal.marks, s.faultLog.ring.map RingEntry.entry⟩ }
          links := links })) ∧
        (s.engine.state = .writing → s.engine.queue.length < 4 →
          exec (.writeRecord link body) s = .next (State.drive { s with
            cal := { s.cal with pendingWrite := some (c.id, .queued) }
            engine := { s.engine with queue := s.engine.queue ++ [unit] }
            links := links })))

/-- The fault log takes an entry: into the ring, which keeps the newest 32, with a write handed to the engine; into the
overflow while no write can be taken; or into the lost count. Told of a free place with a write wanted and none outstanding, it
offers again: when the engine takes the unit the overflow joins the ring in order, unstored, and the write is no longer wanted;
refused, or with no write wanted or one outstanding, nothing changes. A unit that goes in flight carries every entry of the ring
(R138, R139, R200, R202). -/
def Obligations.FaultLogTakesEntries : Prop :=
  ∀ (s : State) (e : FaultEntry),
    let f := s.faultLog
    let joined := f.ring ++ [⟨e, false, false⟩]
    let carried := fun (r : List RingEntry) => r.map (fun x => { x with carried := true })
    let ring := if joined.length ≤ 32 then joined else joined.drop 1
    let takes := s.engine.state = .idle ∨
      s.engine.state = .writing ∧ s.engine.queue.length < 4 ∧ WriteUnit.faultLog ∉ s.engine.queue
    (f.overflow = [] → f.outstanding = none → s.engine.state = .idle → s.logFault e = { s with
      faultLog := { f with ring := carried ring, outstanding := some .inFlight }
      engine := { s.engine with
        state := .writing
        inFlight := some ⟨.faultLog, s.journal.header, s.journal.marks, ring.map RingEntry.entry⟩ } }) ∧
    (f.overflow = [] → f.outstanding = none → s.engine.state = .writing → takes → s.logFault e = { s with
      faultLog := { f with ring := ring, outstanding := some .queued }
      engine := { s.engine with queue := s.engine.queue ++ [.faultLog] } }) ∧
    (f.overflow ≠ [] ∨ f.outstanding ≠ none ∨ ¬ takes →
      (f.overflow.length < 4 →
        s.logFault e = { s with faultLog := { f with overflow := f.overflow ++ [e], wanted := true } }) ∧
      (4 ≤ f.overflow.length → s.logFault e = { s with faultLog := { f with lost := min 255 (f.lost + 1) } })) ∧
    (f.ring.length ≤ 32 → f.wanted = true → f.outstanding = none →
      let all := f.ring ++ f.overflow.map (fun x => ⟨x, false, false⟩)
      let newest := all.drop (all.length - 32)
      (s.engine.state = .idle → s.placeFree = { s with
        faultLog := { f with ring := carried newest, overflow := [], wanted := false, outstanding := some .inFlight }
        engine := { s.engine with
          state := .writing
          inFlight := some ⟨.faultLog, s.journal.header, s.journal.marks, newest.map RingEntry.entry⟩ } }) ∧
      (s.engine.state = .writing → takes → s.placeFree = { s with
        faultLog := { f with ring := newest, overflow := [], wanted := false, outstanding := some .queued }
        engine := { s.engine with queue := s.engine.queue ++ [.faultLog] } })) ∧
    (f.wanted = false ∨ f.outstanding ≠ none ∨ ¬ takes → s.placeFree = s)

/-! ## Pulses -/

/-- The trim of a band: the extra quanta fall where R4 says, in the first p positions of a frame there are floor(p × T /
16) of them, none at position 1, T in the whole frame, and an increment lies in 100..65,536. -/
def Obligations.TrimSpreadsOverFrame : Prop :=
  ∀ (f : Factor), f.t.toNat ≤ 15 → 100 ≤ f.b.toNat →
    (∀ p, increment f p = f.b.toNat + (if (p - 1) * f.t.toNat / 16 < p * f.t.toNat / 16 then 1 else 0)) ∧
    (∀ p ≤ 16, ((List.range p).map (fun i => increment f (i + 1))).sum = p * f.b.toNat + p * f.t.toNat / 16) ∧
    increment f 1 = f.b.toNat ∧ ((List.range 16).map (fun i => increment f (i + 1))).sum = 16 * f.b.toNat + f.t.toNat ∧
    (f.t = 0 → ∀ p, increment f p = f.b.toNat) ∧ ∀ p, 100 ≤ increment f p ∧ increment f p ≤ 65536

/-- A PICKUP1 pulse in FLOWING is counted into the delivery, the totalizer and nA; at the stop target the line goes to
SETTLING, at the slow-down target a FULL valve drops to TRICKLE, and below it the valve stays (R2 to R6, R20, R65, R88). -/
def Obligations.PulseWhileFlowing : Prop :=
  ∀ (l : LineId) (s : State), s.restart.phase = .running → (s.line l).state = .flowing →
    let ln0 := counted (s.line l)
    let ln := { ln0 with delivery := { ln0.delivery with counts := { ln0.delivery.counts with
      nA := min 65535 (ln0.delivery.counts.nA + 1) } } }
    let g := ln.delivery.counts.g
    let d := ln.delivery
    (d.preset.stop ≤ g → exec (.pickup1Pulse l) s = .next (State.drive { s with
      lines := s.lines.set l (settled (targetCause d) ln)
      links := noticed s (lineNotices l (settled (targetCause d) ln) false) })) ∧
    (g < d.preset.stop → d.preset.slow ≤ g → d.preset.stage = .full → exec (.pickup1Pulse l) s = .next (State.drive { s with
      lines := s.lines.set l { ln with delivery := { d with preset := { d.preset with stage := .trickle } } } })) ∧
    (g < d.preset.stop → g < d.preset.slow ∨ d.preset.stage ≠ .full →
      exec (.pickup1Pulse l) s = .next (State.drive { s with lines := s.lines.set l ln }))

/-- A PICKUP1 pulse with the valve closed is billed on the delivery: in ARMED and PAUSED it is creep and above the latched
limit halts the line, in HALTED it is creep without a limit, in SETTLING it is overrun and restarts the quiet timer (R5,
R17, R60, R66).
The order of the notices and the entry is the model's (log 14). -/
def Obligations.PulseWithValveClosed : Prop :=
  ∀ (l : LineId) (s : State), s.restart.phase = .running →
    let ln := crept (counted (s.line l))
    let limit := ln.delivery.latched.line.creepLimit.toNat
    let e : FaultEntry := ⟨s.stamp, .creep, some l, BitVec.ofNat 32 ln.delivery.counts.creep⟩
    ((s.line l).state = .armed ∨ (s.line l).state = .paused →
      (ln.delivery.counts.creep ≤ limit →
        exec (.pickup1Pulse l) s = .next (State.drive { s with lines := s.lines.set l ln })) ∧
      (limit < ln.delivery.counts.creep → exec (.pickup1Pulse l) s = .next (State.drive { s.logFault e with
        lines := s.lines.set l (halted .creep ln)
        links := noticed s (lineNotices l (halted .creep ln) false ++ faultNotices e) }))) ∧
    ((s.line l).state = .halted →
      exec (.pickup1Pulse l) s = .next (State.drive { s with lines := s.lines.set l ln })) ∧
    ((s.line l).state = .settling → exec (.pickup1Pulse l) s = .next (State.drive { s with
      lines := s.lines.set l { counted (s.line l) with quietRunning := true } }))

/-- A PICKUP1 pulse on a line without an open delivery counts into the totalizer and the unticketed volume with the MAIN
band of the live record, or with B = 1,000 and T = 0 when it is INVALID, and the first of a stay makes an UNTICKETED_FLOW
entry (R2, R3, R18 to R20). -/
def Obligations.PulseUnticketed : Prop :=
  ∀ (l : LineId) (s : State), s.restart.phase = .running →
    (s.line l).state = .idle ∨ (s.line l).state = .unverified ∨ (s.line l).state = .recording →
    let ln := s.line l
    let live := (s.cal.shadows.meter.get l).get ln.idleProduct
    let f : Factor := if live.valid = true then live.contents.main else ⟨1000, 0⟩
    let p := advanced ln.delivery.counts.framePos
    let ln' := { ln with
      totalizer := (ln.totalizer + pulseIncrement f p) % 1000000000000000
      unticketed := (ln.unticketed + pulseIncrement f p) % 1000000000000000
      stayLogged := true
      delivery := { ln.delivery with counts := { ln.delivery.counts with framePos := p } } }
    let e : FaultEntry := ⟨s.stamp, .unticketedFlow, some l,
      BitVec.ofNat 32 (productNo ln.idleProduct + if live.valid = true then 0 else 4)⟩
    (ln.stayLogged = true → exec (.pickup1Pulse l) s = .next (State.drive { s with lines := s.lines.set l ln' })) ∧
    (ln.stayLogged = false → exec (.pickup1Pulse l) s = .next (State.drive { s.logFault e with
      lines := s.lines.set l ln'
      links := noticed s (faultNotices e) }))

/-- A PICKUP2 pulse counts in nB in FLOWING, up to 65,535, and has no effect in any other line state; it adds to no volume
and moves no frame position (R13). -/
def Obligations.SecondPickupCountsInFlowing : Prop :=
  ∀ (l : LineId) (s : State), s.restart.phase = .running →
    ((s.line l).state = .flowing → exec (.pickup2Pulse l) s = .next (State.drive { s with
      lines := s.lines.set l { s.line l with delivery := { (s.line l).delivery with counts :=
        { (s.line l).delivery.counts with nB := min 65535 ((s.line l).delivery.counts.nB + 1) } } } })) ∧
    ((s.line l).state ≠ .flowing → exec (.pickup2Pulse l) s = .next s.drive)

/-- Outside phase RUNNING no pulse and no expiry of a timer is taken, and no timer expires that does not run (R10, R21, R67,
R173).
That an event which cannot occur changes nothing is the model's choice (log 4). -/
def Obligations.NothingCountsOutsideRunning : Prop :=
  ∀ (l : LineId) (raw : BitVec 16) (s : State),
    (s.restart.phase ≠ .running → exec (.pickup1Pulse l) s = .next s.drive ∧ exec (.pickup2Pulse l) s = .next s.drive ∧
      exec .sweepTimerExpiry s = .next s.drive ∧ exec .clockSecond s = .next s.drive) ∧
    (s.restart.phase ≠ .running ∨ (s.line l).windowRunning = false ∨ (s.line l).state ≠ .flowing →
      exec (.flowWindowExpiry l raw) s = .next s.drive) ∧
    (s.restart.phase ≠ .running ∨ (s.line l).quietRunning = false ∨ (s.line l).state ≠ .settling →
      exec (.quietTimerExpiry l raw) s = .next s.drive) ∧
    (s.restart.phase ≠ .running ∨ (s.line l).capRunning = false ∨ (s.line l).state ≠ .settling →
      exec (.capTimerExpiry l raw) s = .next s.drive) ∧
    (s.cal.sweepRunning = false → exec .sweepTimerExpiry s = .next s.drive)

/-! ## Inputs -/

/-- In RUNNING AIR on its own line, and ESTOP and PUMP_FAULT on both, pause every FLOWING line with their own cause and change no
other line; ESTOP and PUMP_FAULT make an entry with the pump output as its detail, and ESTOP applies its hold; asserted again they
change nothing (R55 to R57, R77 to R80, R201). Outside RUNNING, between the warning and step 6 of start-up, only the level of the
input is recorded, which step 6 then takes (R173 to R175).
That the level alone is recorded there is the model's reading (log 8); the order of the entry and the notices is the model's (log
14, 33). -/
def Obligations.BlockingInputsPause : Prop :=
  ∀ (s : State),
    (s.restart.phase = .running →
      let pause := fun (c : PauseCause) (ln : Line) => if ln.state = .flowing then paused c ln else ln
      let told := fun (c : PauseCause) (l : LineId) =>
        if (s.line l).state = .flowing then lineNotices l (paused c (s.line l)) false else []
      let entry := fun (code : FaultCode) => (⟨s.stamp, code, none, if s.pump = true then 1 else 0⟩ : FaultEntry)
      (∀ l, exec (.airAsserted l) s = .next (State.drive { s with
        inputs := { s.inputs with air := s.inputs.air.set l true }
        lines := s.lines.set l (pause .air (s.line l))
        links := noticed s (told .air l) })) ∧
      (s.inputs.estop = false → exec .estopAsserted s = .next (State.drive { s.logFault (entry .estop) with
        inputs := { s.inputs with estop := true }
        estopHold := true
        lines := ⟨pause .estop s.lines.a, pause .estop s.lines.b⟩
        links := noticed s (faultNotices (entry .estop) ++ told .estop .a ++ told .estop .b) })) ∧
      (s.inputs.pumpFault = false → exec .pumpFaultAsserted s = .next (State.drive { s.logFault (entry .pumpFault) with
        inputs := { s.inputs with pumpFault := true }
        lines := ⟨pause .pump s.lines.a, pause .pump s.lines.b⟩
        links := noticed s (faultNotices (entry .pumpFault) ++ told .pump .a ++ told .pump .b) })) ∧
      (s.inputs.estop = true → exec .estopAsserted s = .next s.drive) ∧
      (s.inputs.pumpFault = true → exec .pumpFaultAsserted s = .next s.drive)) ∧
    (s.restart.phase ≠ .running →
      (∀ l, exec (.airAsserted l) s = .next (State.drive { s with
        inputs := { s.inputs with air := s.inputs.air.set l true } })) ∧
      exec .estopAsserted s = .next (State.drive { s with inputs := { s.inputs with estop := true } }) ∧
      exec .pumpFaultAsserted s = .next (State.drive { s with inputs := { s.inputs with pumpFault := true } }))

/-- A release changes no line state: only the input, the ESTOP hold and the outputs that follow it. The inspection switch,
opened, marks the open SALE deliveries INSPECTION_OPENED and, closed, clears nothing (R55 to R58, R79, R80, R150, R173 to R175).
Outside RUNNING, between the warning and step 6 of start-up, only the level of the input is recorded, which step 6 then takes:
the model's reading (log 8). -/
def Obligations.ReleasesAndInspectionSwitch : Prop :=
  ∀ (s : State),
    let marked := fun (ln : Line) => if ln.state.isOpen = true ∧ ln.delivery.mode = some .sale
      then { ln with delivery := { ln.delivery with flags := { ln.delivery.flags with inspectionOpened := true } } } else ln
    (∀ l, exec (.airReleased l) s = .next (State.drive { s with
      inputs := { s.inputs with air := s.inputs.air.set l false } })) ∧
    (s.restart.phase = .running → exec .estopReleased s = .next (State.drive { s with
      inputs := { s.inputs with estop := false }, estopHold := false })) ∧
    (s.restart.phase ≠ .running → exec .estopReleased s = .next (State.drive { s with
      inputs := { s.inputs with estop := false } })) ∧
    exec .pumpFaultReleased s = .next (State.drive { s with inputs := { s.inputs with pumpFault := false } }) ∧
    (s.restart.phase = .running → exec .inspectionSwitchOpened s = .next (State.drive { s with
      inputs := { s.inputs with inspectionOpen := true }
      lines := ⟨marked s.lines.a, marked s.lines.b⟩ })) ∧
    (s.restart.phase ≠ .running → exec .inspectionSwitchOpened s = .next (State.drive { s with
      inputs := { s.inputs with inspectionOpen := true } })) ∧
    exec .inspectionSwitchClosed s = .next (State.drive { s with inputs := { s.inputs with inspectionOpen := false } })

/-! ## Timers -/

/-- A flow-window expiry that raises neither PICKUP_MISMATCH nor NO_FLOW: strikes, band and zero-window run are judged, the
sample is taken, the targets are loaded; the line settles when G has reached the new stop target, is halted when the latched
copies no longer give the latch check code, and flows on otherwise; RUNNING_TOTAL is sent and nA and nB are cleared (R12, R14
to R16, R26 to R29, R33, R34, R48, R65, R84, R85).
The probe reading is an operand (log 5); the order of notices and entries, the 3 bytes and the limit of RUNNING_TOTAL's billed
quantity, and LOW where a disturbed copy lets LOW and HIGH both hold, are the model's (log 14, 18, 38, 42). -/
def Obligations.FlowWindowLoadsTargets : Prop :=
  ∀ (l : LineId) (raw : BitVec 16) (s : State), s.restart.phase = .running → (s.line l).state = .flowing →
    (s.line l).windowRunning = true → nextStrikes (s.line l).delivery ≠ 2 →
    nextRun (s.line l).delivery < (s.line l).delivery.latched.settings.noFlow.toNat →
    let ln1 := sampled (judged (s.line l)) raw
    let ln := { ln1 with delivery := loaded ln1.delivery }
    let d := ln.delivery
    let s1 := probed s l (s.line l).delivery raw
    let ns := probeNotices s l (s.line l).delivery raw
    let e : FaultEntry := ⟨s.stamp, .latchIntegrity, some l, d.checkCode⟩
    (d.preset.stop ≤ d.counts.g → exec (.flowWindowExpiry l raw) s = .next (State.drive { s1 with
      lines := s.lines.set l (windowCleared (settled (targetCause d) ln))
      links := noticed s (ns ++ lineNotices l (settled (targetCause d) ln) false ++ [runningTotal l d]) })) ∧
    (d.counts.g < d.preset.stop → latchCode d.latched = d.checkCode →
      exec (.flowWindowExpiry l raw) s = .next (State.drive { s1 with
        lines := s.lines.set l (windowCleared ln)
        links := noticed s (ns ++ [runningTotal l d]) })) ∧
    (d.counts.g < d.preset.stop → latchCode d.latched ≠ d.checkCode →
      exec (.flowWindowExpiry l raw) s = .next (State.drive { s1.logFault e with
        lines := s.lines.set l (windowCleared (halted .latchIntegrity ln))
        links := noticed s (ns ++ lineNotices l (halted .latchIntegrity ln) false ++ faultNotices e ++ [runningTotal l d]) }))

/-- A flow-window expiry that raises an event: two strikes halt the line with PICKUP_MISMATCH and its entry; otherwise a
zero-window run at the no-flow limit pauses it with NO_FLOW and makes no entry. The sample is taken, RUNNING_TOTAL is sent
and nA and nB are cleared all the same, no targets are loaded and a staged top-up stays (R12, R14, R16, R60, R85).
The probe reading is an operand (log 5); the order of notices and entries, the 3 bytes and the limit of RUNNING_TOTAL's billed
quantity, and LOW where a disturbed copy lets LOW and HIGH both hold, are the model's (log 14, 18, 38, 42). -/
def Obligations.FlowWindowRaisesEvent : Prop :=
  ∀ (l : LineId) (raw : BitVec 16) (s : State), s.restart.phase = .running → (s.line l).state = .flowing →
    (s.line l).windowRunning = true →
    let d := (s.line l).delivery
    let e : FaultEntry := ⟨s.stamp, .pickupMismatch, some l, BitVec.ofNat 32 (d.counts.nA * 65536 + d.counts.nB)⟩
    let ns := probeNotices s l d raw
    let lnH := halted .pickupMismatch (judged (s.line l))
    let lnP := paused .noFlow (judged (s.line l))
    (nextStrikes d = 2 → exec (.flowWindowExpiry l raw) s = .next (State.drive { probed (s.logFault e) l d raw with
      lines := s.lines.set l (windowCleared (sampled lnH raw))
      links := noticed s (lineNotices l lnH false ++ faultNotices e ++ ns ++ [runningTotal l (sampled lnH raw).delivery]) })) ∧
    (nextStrikes d ≠ 2 → d.latched.settings.noFlow.toNat ≤ nextRun d →
      exec (.flowWindowExpiry l raw) s = .next (State.drive { probed s l d raw with
        lines := s.lines.set l (windowCleared (sampled lnP raw))
        links := noticed s (lineNotices l lnP false ++ ns ++ [runningTotal l (sampled lnP raw).delivery]) }))

/-- The end of SETTLING with G = 0, by the quiet timer or, with the SETTLE_CAP flag and entry, by the cap timer: no ticket, no
audit entry and no number; a SALE gives its slot and its reservation back, a TEST is reported as NOTHING_DELIVERED (R66 to
R69).
The probe reading is an operand (log 5); the order of notices and entries is the model's (log 14, 16). -/
def Obligations.SettlingEndsWithNothing : Prop :=
  ∀ (l : LineId) (raw : BitVec 16) (s : State), s.restart.phase = .running → (s.line l).state = .settling →
    (s.line l).delivery.counts.g = 0 →
    let close := fun (c : Instr) (s0 : State) (ns0 : List Notice) (ln0 : Line) =>
      let ln := freed (restState s l) (sampled (countClosed s ln0) raw)
      let s1 := probed s0 l ln0.delivery raw
      let ns := ns0 ++ probeNotices s l ln0.delivery raw
      (ln0.delivery.mode = some .test → exec c s = .next (State.drive { s1 with
        lines := s.lines.set l ln
        links := noticed s (ns ++ [⟨.metrology, .testResult, beBytes 1 (lineNo l) ++ [0x40]⟩] ++ lineNotices l ln true) })) ∧
      (∀ n m o, ln0.delivery.mode = some .sale → ln0.delivery.slot = some n → s.orders.slot n = .bound m o →
        exec c s = .next (State.drive { s1 with
          lines := s.lines.set l ln
          orders := { s.orders with slots := s.orders.slots.set n.val (.waiting o) n.isLt }
          journal := { s.journal with reservations := s.journal.reservations - 1 }
          links := noticed s (ns ++ lineNotices l ln true) }))
    let e : FaultEntry := ⟨s.stamp, .settleCap, some l, BitVec.ofNat 32 0⟩
    let capped := { s.line l with delivery := { (s.line l).delivery with
      flags := { (s.line l).delivery.flags with settleCap := true } } }
    ((s.line l).quietRunning = true → close (.quietTimerExpiry l raw) s [] (s.line l)) ∧
    ((s.line l).capRunning = true → close (.capTimerExpiry l raw) (s.logFault e) (faultNotices e) capped)

/-- The end of SETTLING with G > 0, by the quiet timer or, with the SETTLE_CAP flag and entry, by the cap timer: a SALE takes
the next ticket number, its record is finished, and a journal append is handed to the engine; a TEST takes no number and
hands a test record; the line is in RECORDING (R66 to R68, R70, R71, R132, R140, R201).
The probe reading is an operand (log 5); the order of notices and entries is the model's (log 14); that the unit carries the
next ticket number as it stands at the hand-over is the model's reading of R140 (log 23). -/
def Obligations.SettlingEndsWithVolume : Prop :=
  ∀ (l : LineId) (raw : BitVec 16) (s : State), s.restart.phase = .running → (s.line l).state = .settling →
    0 < (s.line l).delivery.counts.g →
    let close := fun (c : Instr) (s0 : State) (ns0 : List Notice) (ln0 : Line) =>
      let ln1 := sampled (countClosed s ln0) raw
      let s1 := probed s0 l ln0.delivery raw
      let ns := ns0 ++ probeNotices s l ln0.delivery raw
      let n := s.journal.nextNumber
      (ln0.delivery.mode = some .sale →
        let d := Delivery.finishSale l { ln1.delivery with ticketNumber := some n }
        let ln := recording { ln1 with delivery := d }
        exec c s = .next (State.drive { State.hand
          { s1 with lines := s.lines.set l ln, journal := { s.journal with nextNumber := n + 1 } }
          (.journalAppend l false n (n + 1) (d.ticket.getD [])) with
          links := noticed s (ns ++ lineNotices l ln false) })) ∧
      (∀ r, ln0.delivery.mode = some .test → (Delivery.finishTest l false ln1.delivery).testRun = some r →
        let ln := recording { ln1 with delivery := Delivery.finishTest l false ln1.delivery }
        exec c s = .next (State.drive { State.hand { s1 with lines := s.lines.set l ln } (.testRecord l false r) with
          links := noticed s (ns ++ lineNotices l ln false) }))
    let e : FaultEntry := ⟨s.stamp, .settleCap, some l, BitVec.ofNat 32 (s.line l).delivery.counts.g⟩
    let capped := { s.line l with delivery := { (s.line l).delivery with
      flags := { (s.line l).delivery.flags with settleCap := true } } }
    ((s.line l).quietRunning = true → close (.quietTimerExpiry l raw) s [] (s.line l)) ∧
    ((s.line l).capRunning = true → close (.capTimerExpiry l raw) (s.logFault e) (faultNotices e) capped)

/-! ## The integrity sweep -/

/-- A timer sweep over records that all agree with their reference checks keeps PASS and changes nothing else; one that finds
a mismatch keeps FAIL and is carried out as a failed sweep (R164, R166).
The order of its notices is the model's (log 14). -/
def Obligations.SweepPassesOrFails : Prop :=
  ∀ (s : State), s.restart.phase = .running → s.cal.sweepRunning = true →
    ((∀ r, agrees s r) → exec .sweepTimerExpiry s
      = .next (State.drive { s with cal := { s.cal with lastSweep := some true } })) ∧
    (¬ (∀ r, agrees s r) →
      let w := Work.failedSweep (disagreeing s allRecords) ⟨{ s with cal := { s.cal with lastSweep := some false } }, []⟩
      exec .sweepTimerExpiry s = .next (State.drive { w.st with links := noticed s w.notes }))

/-- A failed sweep reloads every record from the store, as its correction code leaves it, with a new reference check; decides
the checksum state; halts every open delivery that latches an affected record, or marks it CAL_INTEGRITY once it is halted or
settling; takes every IDLE line that calibration no longer vouches for to UNVERIFIED; and moves no order, plan, count, ticket
or stored item. Its entries are CAL_INTEGRITY with the sum of 2^id over the records that disagreed as its detail, and those of the
reload; each sends its FAULT_RAISED, and each line that changes state its LINE_STATE (R40, R59, R163, R166, R202).
The order of the notices is the model's (log 14), and so are the entry of a stored checksum with one wrong bit (log 13) and the
content bits of a stored INVALID record (log 12). -/
def Obligations.FailedSweepReloadsAndHalts : Prop :=
  ∀ (bad : List RecordId) (s : State) (ns : List Notice),
    let w := Work.failedSweep bad ⟨s, ns⟩
    let t := w.st
    let wrong := fun r => bitDistance (heldBytes (s.store.records.get r).1 (s.store.records.get r).2)
      (heldBytes (s.store.sealed.get r).1 (s.store.sealed.get r).2)
    let affected := fun r => t.cal.consistent = false ∨ r ∈ bad ∨ wrong r ≠ 0
    (∀ r, (wrong r ≤ 1 → (s.store.sealed.get r).1 = true → t.cal.shadows.get r = s.store.sealed.get r) ∧
      (2 ≤ wrong r ∨ (s.store.sealed.get r).1 = false → (t.cal.shadows.get r).1 = false) ∧
      t.cal.refs.get r = recordCheck (t.cal.shadows.get r).1 (t.cal.shadows.get r).2) ∧
    ((∃ r, 2 ≤ wrong r) → t.cal.consistent = false) ∧
    (s.store.checksumSealed ≠ t.cal.refs.checksum → t.cal.consistent = false) ∧
    ((∀ r, wrong r ≤ 1) → s.store.checksum = s.store.checksumSealed → s.store.checksumSealed = t.cal.refs.checksum →
      t.cal.consistent = true) ∧
    (∀ l, let ln := s.line l
      let hit := affected (.line l) ∨ affected (.meter l ln.delivery.product) ∨ affected (.product ln.delivery.product)
      (ln.state = .armed ∨ ln.state = .flowing ∨ ln.state = .paused → hit → t.line l = halted .calIntegrity ln) ∧
      (ln.state = .halted ∨ ln.state = .settling → hit →
        t.line l = { ln with delivery := { ln.delivery with haltCause := some .calIntegrity } }) ∧
      (ln.state = .idle → (t.cal.shadows.line.get l).valid = false ∨ t.cal.consistent = false →
        t.line l = freed .unverified ln) ∧
      (ln.state = .idle → (t.cal.shadows.line.get l).valid = true → t.cal.consistent = true → t.line l = ln) ∧
      (ln.state = .unverified ∨ ln.state = .recording ∨ (ln.state.isOpen = true ∧ ¬ hit) → t.line l = ln)) ∧
    (let entries := ⟨s.stamp, .calIntegrity, none, BitVec.ofNat 32 ((bad.map (fun r => 2 ^ recordNo r)).sum)⟩
        :: loadEntries s.stamp s.store
      let logged := entries.foldl State.logFault s
      let told := fun (l : LineId) (st : LineState) => if (t.line l).state = st ∧ (s.line l).state ≠ st
        then lineNotices l (t.line l) false else []
      t.faultLog = logged.faultLog ∧ t.engine = logged.engine ∧ w.notes = ns ++ entries.flatMap faultNotices
        ++ told .a .halted ++ told .b .halted ++ told .a .unverified ++ told .b .unverified) ∧
    t.orders = s.orders ∧ t.plans = s.plans ∧ t.journal = s.journal ∧ t.restart = s.restart ∧ t.store = s.store ∧
    t.inputs = s.inputs ∧ t.links = s.links ∧ t.pending = s.pending ∧ t.pump = s.pump ∧ t.dlvFault = s.dlvFault ∧
    t.estopHold = s.estopHold ∧ t.restartHold = s.restartHold ∧ t.cal.settings = s.cal.settings ∧
    t.cal.pendingWrite = s.cal.pendingWrite ∧ t.cal.lastSweep = s.cal.lastSweep ∧ t.cal.sweepRunning = s.cal.sweepRunning

/-! ## The write engine and its completions -/

/-- The engine takes units one at a time, in the order handed over: a unit handed to an IDLE engine goes in flight with the
journal header, damaged marks and fault ring as they stand, one handed to a WRITING engine waits in the queue of four (a
fault-log write only where no other waits), and in SAVING and STOPPED nothing is taken; after a completion the oldest waiting
unit goes in flight, or the engine is IDLE, and in SAVING nothing follows. A calibration write that goes in flight makes the
pending write IN_FLIGHT, a fault-log write the log's write outstanding and every ring entry one that it carries, and nothing
else changes (R137 to R140, R144, R148, R202). -/
def Obligations.EngineTakesUnitsInOrder : Prop :=
  ∀ (s : State) (u : WriteUnit),
    let goes := fun (u : WriteUnit) (rest : List WriteUnit) => { s with
      engine := ⟨.writing, some ⟨u, s.journal.header, s.journal.marks, s.faultLog.ring.map RingEntry.entry⟩, rest⟩
      cal := { s.cal with pendingWrite := match u with
        | .calibration .. => s.cal.pendingWrite.map (fun x => (x.1, .inFlight))
        | .journalAppend .. | .testRecord .. | .restartUpdate .. | .faultLog => s.cal.pendingWrite }
      faultLog := if u = .faultLog then { s.faultLog with
          ring := s.faultLog.ring.map (fun x => { x with carried := true })
          outstanding := some .inFlight }
        else s.faultLog }
    (s.engine.state = .idle → s.hand u = goes u s.engine.queue) ∧
    (s.engine.state = .writing → s.engine.queue.length < 4 → (u = .faultLog → .faultLog ∉ s.engine.queue) →
      s.hand u = { s with engine := { s.engine with queue := s.engine.queue ++ [u] } }) ∧
    (s.engine.state = .writing → 4 ≤ s.engine.queue.length → s.hand u = s) ∧
    (s.engine.state = .saving ∨ s.engine.state = .stopped → s.hand u = s ∧
      s.engineNext = { s with engine := { s.engine with inFlight := none } }) ∧
    (s.engine.state = .writing → s.engine.queue = [] →
      s.engineNext = { s with engine := ⟨.idle, none, []⟩ }) ∧
    (∀ v q, s.engine.state = .writing → s.engine.queue = v :: q → s.engineNext = goes v q)

/-- JOURNAL_APPEND_COMPLETION: the record stands at the newest end, in the store with the header and marks as the unit took
them; a line's own append ends its reservation, frees its slot, sends TICKET_READY and takes the line to rest; a recovery
append sends TICKET_READY alone; the engine moves on (R72, R107, R131, R136, R140, R142).
The order of completion, hand-over and the place-free event is the model's (log 24). -/
def Obligations.AppendCompletes : Prop :=
  ∀ (s : State) (l : LineId) (recovery : Bool) (number next : Nat) (ticket : List Byte) (h : JournalHeader)
    (marks : BitVec 256) (ring : List FaultEntry),
    s.engine.inFlight = some ⟨.journalAppend l recovery number next ticket, h, marks, ring⟩ →
    let place : Fin 256 := Fin.ofNat 256 (s.journal.header.oldestPlace + s.journal.header.count)
    let unmarked := fun (m : BitVec 256) => m &&& ~~~(BitVec.ofNat 256 (2 ^ place.val))
    let j : Journal := { s.journal with
      header := { s.journal.header with count := s.journal.header.count + 1 }
      marks := unmarked s.journal.marks
      reservations := if recovery then s.journal.reservations else s.journal.reservations - 1
      pendingRecovery := if recovery then s.journal.pendingRecovery - 1 else s.journal.pendingRecovery }
    let store := { s.store with
      places := s.store.places.set place.val (some ticket) place.isLt
      nextNumber := next
      header := { h with count := h.count + 1 }
      marks := unmarked marks }
    let ready : Notice := ⟨.cab, .ticketReady, laid (.fixed (beBytes 4 number) :: summary j)⟩
    (recovery = true → exec .journalAppendCompletion s = .next (State.drive {
      (State.engineNext { s with journal := j, store := store }).placeFree with links := noticed s [ready] })) ∧
    (recovery = false → s.restart.phase ≠ .running → exec .journalAppendCompletion s
      = .next (State.drive (State.engineNext { s with journal := j, store := store }).placeFree)) ∧
    (∀ n m o, recovery = false → s.restart.phase = .running → (s.line l).state = .recording →
      (s.line l).delivery.slot = some n → s.orders.slot n = .bound m o →
      let ln := freed (restState s l) (s.line l)
      exec .journalAppendCompletion s = .next (State.drive { (State.engineNext { s with
          journal := j
          store := store
          orders := { s.orders with slots := s.orders.slots.set n.val .free n.isLt }
          lines := s.lines.set l ln }).placeFree with
        links := noticed s (ready :: lineNotices l ln false) }))

/-- CALIBRATION_WRITE_COMPLETION: stored record, checksum, event counter and CAL_CHANGE entry; shadow, reference check and
checksum state; WRITE_DONE; then, with the checksum CONSISTENT, UNVERIFIED lines whose LINE record is VALID go to IDLE, and
with it FAILED every IDLE line goes to UNVERIFIED and every open delivery is affected (R59, R154, R155, R158).
The order of completion, hand-over and the place-free event, and of the two lines' notices, is the model's (log 14, 24). -/
def Obligations.CalibrationWriteCompletes : Prop :=
  ∀ (s : State) (c : CalRecord) (check checksum : Check) (counter : Nat) (e : AuditEntry) (h : JournalHeader)
    (marks : BitVec 256) (ring : List FaultEntry),
    s.engine.inFlight = some ⟨.calibration c check checksum counter e, h, marks, ring⟩ →
    let ok := (s.cal.refs.put check c.id).checksum == checksum
    let full := 64 ≤ s.store.audit.length
    let s1 := { s with
      store := { s.store with
        records := s.store.records.put true c
        sealed := s.store.sealed.put true c
        checksum := checksum
        checksumSealed := checksum
        eventCounter := counter
        audit := (if full then s.store.audit.drop 1 else s.store.audit) ++ [e]
        auditOldest := if full then (if s.store.auditOldest < 4294967295 then s.store.auditOldest + 1 else 1)
          else s.store.auditOldest }
      cal := { s.cal with
        shadows := s.cal.shadows.put true c
        refs := s.cal.refs.put check c.id
        consistent := ok
        pendingWrite := none } }
    let done : Notice := ⟨.metrology, .writeDone,
      beBytes 1 (recordNo c.id) ++ beBytes 4 counter ++ checkBytes checksum ++ [if ok then 0x00 else 0x01]⟩
    (s.restart.phase ≠ .running →
      exec .calibrationWriteCompletion s = .next (State.drive s1.engineNext.placeFree)) ∧
    (s.restart.phase = .running → ok = true →
      let back := fun l => (s.line l).state = .unverified ∧ (s1.cal.shadows.line.get l).valid = true
      let ln := fun l => if back l then freed .idle (s.line l) else s.line l
      let ns := fun l => if back l then lineNotices l (ln l) false else []
      exec .calibrationWriteCompletion s = .next (State.drive {
        (State.engineNext { s1 with lines := ⟨ln .a, ln .b⟩ }).placeFree with
        links := noticed s (done :: ns .a ++ ns .b) })) ∧
    (s.restart.phase = .running → ok = false →
      let ln := fun l => match (s.line l).state with
        | .idle => freed .unverified (s.line l)
        | .armed | .flowing | .paused => halted .calIntegrity (s.line l)
        | .halted | .settling =>
          { s.line l with delivery := { (s.line l).delivery with haltCause := some .calIntegrity } }
        | .unverified | .recording => s.line l
      let told := fun (l : LineId) (p : Prop) [Decidable p] => if p then lineNotices l (ln l) false else []
      let idle := fun l => (s.line l).state = .idle
      let open' := fun l => (s.line l).state = .armed ∨ (s.line l).state = .flowing ∨ (s.line l).state = .paused
      exec .calibrationWriteCompletion s = .next (State.drive {
        (State.engineNext { s1 with lines := ⟨ln .a, ln .b⟩ }).placeFree with
        links := noticed s (done :: told .a (idle .a) ++ told .b (idle .b) ++ told .a (open' .a) ++ told .b (open' .b)) }))

/-- TEST_RECORD_COMPLETION, RESTART_UPDATE_COMPLETION and FAULT_LOG_WRITE_COMPLETION put what their unit carries in the store:
the TEST_RUN entry with its TEST_RESULT and, in RUNNING, the line at rest; outside RUNNING the written mark of the line's held
TEST snapshot in RECORDING is set, and the TEST_RESULT of a recovered run is handed to the link front, which keeps it in STARTING;
the interruption counter and the damaged marks; the ring, whose carried entries are then stored (R72, R140, R141, R144, R158,
R160, R172, R175, R202). A completion of any kind with no unit of its kind in flight changes nothing; that, the order of
completion and hand-over, the marks that are added, the written mark's place and the front in SAVING are the model's (log 4, 24,
27, 28, 29). -/
def Obligations.OtherUnitsComplete : Prop :=
  ∀ (s : State),
    (∀ (h : JournalHeader) (marks : BitVec 256) (ring : List FaultEntry),
      (∀ l recovery run, s.engine.inFlight = some ⟨.testRecord l recovery run, h, marks, ring⟩ →
        let store := s.store.audited (.testRun run)
        let result : Notice := ⟨.metrology, .testResult, resultBytes (auditNumber store (store.audit.length - 1)) run⟩
        (s.restart.phase = .running → recovery = true → exec .testRecordCompletion s = .next (State.drive {
          (State.engineNext { s with store := store }).placeFree with links := noticed s [result] })) ∧
        (s.restart.phase = .running → recovery = false → (s.line l).state = .recording →
          let ln := freed (restState s l) (s.line l)
          exec .testRecordCompletion s = .next (State.drive {
            (State.engineNext { s with store := store, lines := s.lines.set l ln }).placeFree with
            links := noticed s (result :: lineNotices l ln false) })) ∧
        (s.restart.phase ≠ .running →
          let x := s.restart.held.get l
          let held := s.restart.held.set l (if x.state = .recording ∧ x.delivery.mode = some .test
            then { x with written := true } else x)
          exec .testRecordCompletion s = .next (State.drive {
            (State.engineNext { s with store := store, restart := { s.restart with held := held } }).placeFree with
            links := noticed s (if recovery = true then [result] else []) }))) ∧
      (∀ n m, s.engine.inFlight = some ⟨.restartUpdate n m, h, marks, ring⟩ →
        exec .restartUpdateCompletion s = .next (State.drive (State.engineNext { s with
          store := { s.store with interruptions := n, marks := s.store.marks ||| m } }).placeFree)) ∧
      (s.engine.inFlight = some ⟨.faultLog, h, marks, ring⟩ →
        exec .faultLogWriteCompletion s = .next (State.drive (State.engineNext { s with
          store := { s.store with ring := ring }
          faultLog := { s.faultLog with
            ring := s.faultLog.ring.map (fun x => ⟨x.entry, x.stored || x.carried, false⟩)
            outstanding := none
            wanted := s.faultLog.wanted || decide (s.faultLog.ring.length ≠ ring.length ∨
              ∃ x ∈ s.faultLog.ring, x.carried = false) } }).placeFree))) ∧
    let untaken := fun (kind : WriteUnit → Prop) (c : Instr) =>
      (∀ x, s.engine.inFlight = some x → ¬ kind x.unit) → exec c s = .next s.drive
    untaken (fun u => ∃ l recovery number next ticket, u = .journalAppend l recovery number next ticket)
      .journalAppendCompletion ∧
    untaken (fun u => ∃ r check checksum counter e, u = .calibration r check checksum counter e)
      .calibrationWriteCompletion ∧
    untaken (fun u => ∃ l recovery run, u = .testRecord l recovery run) .testRecordCompletion ∧
    untaken (fun u => ∃ n m, u = .restartUpdate n m) .restartUpdateCompletion ∧
    untaken (fun u => u = .faultLog) .faultLogWriteCompletion

/-! ## Disturbances -/

/-- A shadow upset changes one shadow and no reference check; a disturbed latched copy changes the copies and not the latch
check code; damage to a stored ticket or to the stored calibration changes what is stored and not what its code was formed
over (R48, R140, R163, R165).
What the bits become is the command's operand (log 10, 11, 12). -/
def Obligations.DisturbancesChangeTheirBitsAlone : Prop :=
  ∀ (s : State),
    (∀ valid r, exec (.shadowUpset valid r) s = .next (State.drive { s with
      cal := { s.cal with shadows := s.cal.shadows.put valid r } })) ∧
    (∀ l c, (s.line l).delivery.mode ≠ none → exec (.latchedCopyDisturbed l c) s = .next (State.drive { s with
      lines := s.lines.set l { s.line l with delivery := { (s.line l).delivery with latched := c } } })) ∧
    (∀ (p : Fin 256) record, s.store.places[p] ≠ none →
      exec (.storedTicketDamage p record) s = .next (State.drive { s with
        store := { s.store with places := s.store.places.set p.val (some record) p.isLt } })) ∧
    (∀ valid r, exec (.storedCalibrationDamage (.record valid r)) s = .next (State.drive { s with
      store := { s.store with records := s.store.records.put valid r } })) ∧
    (∀ v, exec (.storedCalibrationDamage (.checksum v)) s = .next (State.drive { s with
      store := { s.store with checksum := v } }))

/-! ## Interruption and restart -/

/-- A power-fail warning or RESET assertion taken in RUNNING or STARTING: the restart hold, timers stopped, link fronts
emptied, the engine in SAVING with its queue abandoned, the lines' snapshots held and the cause kept; in SAVING and STOPPED
neither is acted on, and a release stops nothing. The restart save, once the unit in flight has finished, puts the held
snapshots, the cause, the journal header, the next ticket number and the damaged marks in the store and stops the part; before
that it does not come (R21, R93, R144, R172 to R174, R176, R194).
That it does not come before that is the model's choice (log 4). -/
def Obligations.WarningAndSave : Prop :=
  ∀ (s : State),
    let cut := fun (f : LinkFront) => { f with request := none, queue := [], sending := none }
    let stop := fun (ln : Line) => { ln with windowRunning := false, quietRunning := false, capRunning := false }
    let snap := fun (ln : Line) => (⟨ln.state, ln.delivery, ln.totalizer, ln.unticketed, false⟩ : Snapshot)
    let path := fun (c : RestartCause) (i : Inputs) => State.drive { s with
      inputs := i
      restartHold := true
      lines := ⟨stop s.lines.a, stop s.lines.b⟩
      cal := { s.cal with sweepRunning := false }
      links := ⟨cut s.links.cab, cut s.links.reel, cut s.links.metrology⟩
      engine := { s.engine with state := .saving, queue := [] }
      restart := { s.restart with
        phase := .saving
        cause := c
        held := if s.restart.phase = .running then ⟨snap s.lines.a, snap s.lines.b⟩ else s.restart.held } }
    (s.restart.phase = .running ∨ s.restart.phase = .starting →
      exec .powerFailWarning s = .next (path .power { s.inputs with powerFail := true }) ∧
      exec .resetAsserted s = .next (path .reset { s.inputs with reset := true })) ∧
    (s.restart.phase = .saving ∨ s.restart.phase = .stopped →
      exec .powerFailWarning s = .next (State.drive { s with inputs := { s.inputs with powerFail := true } }) ∧
      exec .resetAsserted s = .next (State.drive { s with inputs := { s.inputs with reset := true } })) ∧
    exec .powerFailWarningCleared s = .next (State.drive { s with inputs := { s.inputs with powerFail := false } }) ∧
    exec .resetReleased s = .next (State.drive { s with inputs := { s.inputs with reset := false } }) ∧
    (s.restart.phase = .saving → s.engine.inFlight = none → exec .restartSaveWritten s = .next (State.drive { s with
      store := { s.store with
        snapshots := s.restart.held
        saveCause := s.restart.cause
        header := s.journal.header
        nextNumber := s.journal.nextNumber
        marks := s.journal.marks }
      engine := { s.engine with state := .stopped }
      restart := { s.restart with phase := .stopped } })) ∧
    (s.restart.phase ≠ .saving ∨ s.engine.inFlight ≠ none → exec .restartSaveWritten s = .next s.drive)

/-- START_UP_SEQUENCE, once the part has stopped and neither the warning nor RESET stands: phase STARTING; the records loaded
from the store as their correction codes leave them; each line's totalizer and unticketed volume, the journal header and the
save cause taken from the save; the marks of the journal entries whose code fails set; the interruption counter increased and a
restart update handed over with it and exactly those marks; orders, plans, settings, inputs, holds and the store left alone. Its
fault-log entries are those of the load, a JOURNAL_DAMAGED for each entry whose code fails, oldest first, and a POWER_INTERRUPTED
or RESET_INTERRUPTED for each line whose held snapshot holds a delivery, with the number that recovery leaves there; each sends its
FAULT_RAISED, the first joins the loaded ring, four more the overflow, and the rest are lost. Otherwise it does not come (R21,
R141, R145, R162, R163, R174, R175, R181, R200, R202).
That it does not come otherwise, the content bits of a stored INVALID record, the place of the interruption entries and the marks
of the update are the model's (log 4, 12, 13, 25, 27). -/
def Obligations.StartUpLoadsTheSave : Prop :=
  ∀ (s : State),
    let ready := s.restart.phase = .stopped ∧ s.inputs.powerFail = false ∧ s.inputs.reset = false
    let wrong := fun r => bitDistance (heldBytes (s.store.records.get r).1 (s.store.records.get r).2)
      (heldBytes (s.store.sealed.get r).1 (s.store.sealed.get r).2)
    let failing := fun (k : Fin 256) => (List.range s.store.header.count).any (fun i =>
      Fin.ofNat 256 (s.store.header.oldestPlace + i) == k && !ticketGood (s.store.places[k].getD []))
    (¬ ready → exec .startUpSequence s = .next s.drive) ∧
    (ready → ∃ t, exec .startUpSequence s = .next t ∧
      (∀ l, t.line l = { s.line l with
        totalizer := (s.store.snapshots.get l).totalizer
        unticketed := (s.store.snapshots.get l).unticketed
        trickleOut := (t.line l).trickleOut
        mainOut := (t.line l).mainOut }) ∧
      (∀ r, (wrong r ≤ 1 → (s.store.sealed.get r).1 = true → t.cal.shadows.get r = s.store.sealed.get r) ∧
        (2 ≤ wrong r ∨ (s.store.sealed.get r).1 = false → (t.cal.shadows.get r).1 = false) ∧
        t.cal.refs.get r = recordCheck (t.cal.shadows.get r).1 (t.cal.shadows.get r).2) ∧
      t.journal.header = s.store.header ∧ t.journal.reservations = 0 ∧
      (∀ k : Fin 256, t.journal.marks.getLsbD k.val = (s.store.marks.getLsbD k.val || failing k)) ∧
      t.restart.phase = .starting ∧ t.restart.cause = s.store.saveCause ∧
      t.restart.interruptions = min 65535 (s.store.interruptions + 1) ∧
      (∃ found : BitVec 256, (∀ k : Fin 256, found.getLsbD k.val = failing k) ∧
        inEngine t (.restartUpdate (min 65535 (s.store.interruptions + 1)) found)) ∧
      (let entries := loadEntries none s.store ++ damagedEntries s.store ++ interruptedEntries s.store.saveCause t.restart.held
        let loaded := s.store.ring.map (fun e => (e, true))
        t.links = noticed { s with restart := { s.restart with phase := .starting } } (entries.flatMap faultNotices) ∧
        let ring := t.faultLog.ring.map (fun x => (x.entry, x.stored))
        (entries = [] → ring = loaded ∧ { t.faultLog with ring := [] } = ⟨[], [], 0, none, false⟩) ∧
        ∀ e more, entries = e :: more →
          let joined := loaded ++ [(e, false)]
          ring = (if joined.length ≤ 32 then joined else joined.drop 1) ∧ t.faultLog.overflow = more.take 4 ∧
          t.faultLog.lost = min 255 (more.length - 4) ∧ t.faultLog.outstanding ≠ none ∧
          t.faultLog.wanted = decide (more ≠ [])) ∧
      t.restart.time = s.restart.time ∧ t.restart.clockValid = s.restart.clockValid ∧
      t.store = s.store ∧ t.orders = s.orders ∧ t.plans = s.plans ∧ t.inputs = s.inputs ∧ t.pending = s.pending ∧
      t.estopHold = s.estopHold ∧ t.restartHold = s.restartHold ∧ t.cal.settings = s.cal.settings ∧
      t.cal.pendingWrite = s.cal.pendingWrite ∧ t.cal.lastSweep = s.cal.lastSweep)

/-- The recovery of the snapshots by state and mode: an open SALE with G > 0 is numbered, finished with the save cause and
INTERRUPTED, and its append handed over; a SALE in RECORDING whose number the journal does not hold is appended with INTERRUPTED
added; a TEST with G > 0, or in RECORDING and not written, is handed over with the interrupted indication; of any other snapshot
nothing is handed over and nothing changes. The appends reach the engine in ascending ticket number, then the test records, line
A before line B, then the restart update; tickets recovered and pending recovery appends are the number of the appends, test runs
recovered that of the test records (R145, R175, R177 to R180, R182).
The next ticket number an append carries, and that a discarded RECORDING snapshot stays held as it was, are the model's reading
(log 23, 26). -/
def Obligations.RecoveryMakesTickets : Prop :=
  ∀ (s : State) (base : Nat), s.restart.phase = .stopped → s.inputs.powerFail = false → s.inputs.reset = false →
    NextAfterLoad s.store base → ∃ t, exec .startUpSequence s = .next t ∧
      let x := fun l => s.store.snapshots.get l
      t.journal.nextNumber = base + (if openWith (x .a) .sale then 1 else 0) + (if openWith (x .b) .sale then 1 else 0) ∧
      (recoveryUnits t).Pairwise handedBefore ∧ t.restart.tickets = (recoveryUnits t).countP isAppend ∧
      t.journal.pendingRecovery = (recoveryUnits t).countP isAppend ∧
      t.restart.testRuns = (recoveryUnits t).countP isTestRecord ∧
      ∀ l,
        (openWith (x l) .sale →
          let n := if l = .b ∧ openWith (x .a) .sale then base + 1 else base
          let d := Delivery.finishSale l (recoveredSale (x l) s.store.saveCause n)
          t.restart.held.get l = ⟨.recording, d, (x l).totalizer, (x l).unticketed, false⟩ ∧
          ∃ ticket, d.ticket = some ticket ∧ inEngine t (.journalAppend l true n (n + 1) ticket)) ∧
        (∀ n ticket, unheld s.store (x l) n → (x l).delivery.ticket = some ticket →
          t.restart.held.get l = { x l with delivery := { (x l).delivery with
            ticket := some (interruptTicket ticket), flags := { (x l).delivery.flags with interrupted := true } } } ∧
          inEngine t (.journalAppend l true n base (interruptTicket ticket))) ∧
        (openWith (x l) .test →
          let d := Delivery.finishTest l true (recoveredRecord (x l))
          t.restart.held.get l = ⟨.recording, d, (x l).totalizer, (x l).unticketed, false⟩ ∧
          ∃ run, d.testRun = some run ∧ inEngine t (.testRecord l true run)) ∧
        (∀ run, (x l).state = .recording → (x l).delivery.mode = some .test → (x l).written = false →
          (x l).delivery.testRun = some run →
          t.restart.held.get l = { x l with delivery := { (x l).delivery with
            testRun := some { run with interrupted := true } } } ∧
          inEngine t (.testRecord l true { run with interrupted := true })) ∧
        ((x l).state = .idle ∨ (x l).state = .unverified ∨ (x l).delivery.mode = none ∨
            (x l).state ≠ .recording ∧ (x l).delivery.counts.g = 0 ∨
            (x l).state = .recording ∧ (x l).delivery.mode = some .sale ∧ (∀ n, ¬ unheld s.store (x l) n) ∨
            (x l).state = .recording ∧ (x l).delivery.mode = some .test ∧ (x l).written = true →
          t.restart.held.get l = x l ∧ (∀ n next ticket, ¬ inEngine t (.journalAppend l true n next ticket)) ∧
          ∀ run, ¬ inEngine t (.testRecord l true run))

/-- START_UP_FINISH: every block at its after-restart value, the lines IDLE or UNVERIFIED with their totals, the holds ended
but that of ESTOP where it is found asserted, the fault log at its after-restart values with the ring kept, the entries of ESTOP
and PUMP_FAULT made, the clock at 0 and invalid, START_UP transmitted on every link before what waits, phase RUNNING; it does
not come before the units of start-up have completed (R1, R23, R40, R75, R93, R95, R126, R148, R175, R182, R194, R200).
The order of the entries, when it cannot come, and what becomes of entries not yet in the ring are the model's (log 4, 14, 22). -/
def Obligations.StartUpEndsInRunning : Prop :=
  ∀ (s : State),
    let ready := s.restart.phase = .starting ∧ (∀ u ∈ s.engine.queue, u = .faultLog) ∧
      ∀ x, s.engine.inFlight = some x → x.unit = .faultLog
    (¬ ready → exec .startUpFinish s = .next s.drive) ∧
    (ready → (∀ link, (s.front link).sending = none) →
      let ln := fun l => freshLine (if (s.cal.shadows.line.get l).valid = true ∧ s.cal.consistent = true
        then .idle else .unverified) (s.line l).totalizer (s.line l).unticketed
      let fresh := { s with
        lines := ⟨ln .a, ln .b⟩
        estopHold := s.inputs.estop
        restartHold := false
        orders := ⟨Vector.replicate 24 .free, 0⟩
        plans := Vector.replicate 8 []
        journal := { s.journal with reservations := 0, pendingRecovery := 0 }
        faultLog := ⟨s.faultLog.ring, [], 0, none, false⟩
        cal := { s.cal with
          pendingWrite := none
          lastSweep := none
          sweepRunning := true
          settings := ⟨⟨[], 2000, 30⟩, ⟨[], 2000, 30⟩, ⟨[], 2000, 30⟩, ⟨[], 2000, 30⟩⟩ } }
      let entry := fun (code : FaultCode) => (⟨none, code, none, 0⟩ : FaultEntry)
      let s1 := if s.inputs.estop = true then fresh.logFault (entry .estop) else fresh
      let s2 := if s.inputs.pumpFault = true then s1.logFault (entry .pumpFault) else s1
      let waiting := noticed s ((if s.inputs.estop = true then faultNotices (entry .estop) else [])
        ++ if s.inputs.pumpFault = true then faultNotices (entry .pumpFault) else [])
      let code : Byte := match s.restart.cause with
        | .power => 0x35
        | .reset => 0x36
      let frame : TxFrame := ⟨.notice .startUp, 0xA3,
        [code] ++ beBytes 2 s.restart.interruptions ++ beBytes 1 s.restart.tickets ++ beBytes 1 s.restart.testRuns⟩
      let opened := fun (f : LinkFront) => { f with request := none, lost := 0, sending := some frame }
      exec .startUpFinish s = .next (State.drive { s2 with
        restart := { s.restart with phase := .running, time := 0, clockValid := false }
        links := ⟨opened waiting.cab, opened waiting.reel, opened waiting.metrology⟩ }))

/-! ## Arithmetic of a delivery -/

/-- The targets for a top-up total: on the GROSS basis, and for every TEST, S = P × 1,000 vq; on the NET basis S is the smallest
whole number whose product with the running VCF is not less than P × 10⁹; D is S less the slow-down volume × 1,000, or 0; and for
a preset within the capacity and a running VCF in its range S lies in 910..11,111,110,000 (R81, R82). -/
def Obligations.StopTargetIsLeast : Prop :=
  ∀ (d : Delivery) (top : Nat),
    let p := if d.preset.kind = some .fill then 9999999 else d.preset.amount.getD 0 + top
    let s := d.stopFor top
    (d.mode = some .test ∨ d.latched.product.basis = .gross → s = p * 1000) ∧
    (d.mode ≠ some .test → d.latched.product.basis = .net → 0 < d.corr.runVcf →
      p * 1000000000 ≤ s * d.corr.runVcf ∧ ∀ g, p * 1000000000 ≤ g * d.corr.runVcf → s ≤ g) ∧
    d.slowFor top = s - d.latched.settings.slowDown.toNat * 1000 ∧
    (1 ≤ p → p ≤ 9999999 → 900000 ≤ d.corr.runVcf → d.corr.runVcf ≤ 1100000 → 910 ≤ s ∧ s ≤ 11111110000)

/-- Rounding half away from zero gives the nearest whole number, an exact half going to the larger magnitude, with the sign
kept; the average temperature is W / Gs so rounded, within −4,000..6,000 when every weighted temperature is; the VCF is
1,000,000 less the rounded correction term, clamped to 900,000..1,100,000 (R31, R32). -/
def Obligations.AverageAndVcfAreRounded : Prop :=
  (∀ (n : Int) (d : Nat), 0 < d →
    let q := roundHalfAway n d
    2 * (n - q * d).natAbs ≤ d ∧ (2 * (n - q * d).natAbs = d → n.natAbs < (q * d).natAbs) ∧
      (0 ≤ n → 0 ≤ q) ∧ (n ≤ 0 → q ≤ 0)) ∧
  (∀ d : Delivery,
    (0 < d.counts.gs → d.average = roundHalfAway d.corr.w d.counts.gs ∧
      (-4000 * (d.counts.gs : Int) ≤ d.corr.w → d.corr.w ≤ 6000 * (d.counts.gs : Int) →
        -4000 ≤ d.average ∧ d.average ≤ 6000)) ∧
    (d.counts.gs = 0 → d.average = d.corr.lastValid.getD d.latched.product.fallback.toInt)) ∧
  ∀ (alpha : Nat) (t : Int),
    let v := 1000000 - roundHalfAway (alpha * (t - 1500)) 100
    (vcfOf alpha t : Int) = (if 1100000 < v then 1100000 else if v < 900000 then 900000 else v) ∧
      900000 ≤ vcfOf alpha t ∧ vcfOf alpha t ≤ 1100000

/-- A SALE finished: average temperature, VCF, gross_cL, net_cL and Q, limited to the capacity with the CAPACITY flag; its ticket
record is 138 bytes, agrees with its check code and holds every field of the ticket body at its offset: number, line, presence,
order copy, product name, top-up total, times, totalizers, G, volumes, average temperature, VCF, basis, Q, causes, flags,
calibration identity and price part; with no plan the price part is absent, and the order copy holds the tax rate all the same. A
TEST finished: the same without Q, and its TEST_RUN entry. INTERRUPTED added to a ticket sets bit 5 of offset 103 and leaves the
check code good (R35 to R38, R71, R125, R133, R179, R197).
That the tax rate has both bytes in the order copy, at offset 24, where R196 also sends offset 25 as 0, is the model's reading
(log 9). -/
def Obligations.DeliveryIsFinished : Prop :=
  ∀ (l : LineId) (d : Delivery),
    let v := vcfOf d.latched.product.alpha.toNat d.average
    let gross := d.counts.g / 1000
    let net := d.counts.g * v / 1000000000
    let average := if d.corr.lastValid = none then none else some d.average
    let billed := match d.latched.product.basis with
      | .gross => gross
      | .net => net
    let q := min 9999999 billed
    (∃ ticket,
      Delivery.finishSale l d = { d with
        final := some ⟨average, v, gross, net, some q⟩
        flags := { d.flags with capacity := d.flags.capacity || decide (9999999 < billed) }
        ticket := some ticket } ∧
      ticket.length = 138 ∧ ticketGood ticket = true ∧
      (∀ o, d.latched.order = some o → d.counts.g < 10 ^ 17 → d.openTot < 10 ^ 15 → d.closeTot < 10 ^ 15 →
        (∀ n, d.ticketNumber = some n → n < 2 ^ 32 → field ticket 0 4 = n) ∧ field ticket 4 1 = lineNo l ∧
        field ticket 5 1 = (if d.armTime = none then 0 else 1) + (if d.endTime = none then 0 else 2)
          + (if average = none then 0 else 4) + (if d.latched.plan = none then 0 else 8) ∧
        (ticket.drop 6).take 26 = loadBody o ∧ field ticket 30 2 = o.taxRate.toNat ∧
        (ticket.drop 32).take 12 = padTo 12 d.latched.settings.name ∧
        (d.preset.loadedTop < 2 ^ 32 → field ticket 44 4 = d.preset.loadedTop) ∧
        (d.armTime.getD 0 < 2 ^ 32 → field ticket 48 4 = d.armTime.getD 0) ∧
        (d.endTime.getD 0 < 2 ^ 32 → field ticket 52 4 = d.endTime.getD 0) ∧
        (-4000 ≤ average.getD 0 → average.getD 0 ≤ 6000 → signedField ticket 90 = average.getD 0) ∧
        ticket[96]? = some (basisByte d.latched.product.basis) ∧ ticket[101]? = some (endByte d.endCause) ∧
        ticket[102]? = some (haltByte d.haltCause) ∧
        ticket[103]? = some (flagBits { d.flags with capacity := d.flags.capacity || decide (9999999 < billed) }) ∧
        (d.identity.counter < 2 ^ 32 → field ticket 104 4 = d.identity.counter) ∧
        field ticket 108 4 = d.identity.checksum.toNat ∧ field ticket 56 7 = d.openTot ∧
        field ticket 63 7 = d.closeTot ∧ field ticket 70 8 = d.counts.g ∧ field ticket 78 6 = gross ∧
        field ticket 84 6 = net ∧ field ticket 92 4 = v ∧ field ticket 97 4 = q ∧
        (d.latched.plan = none → field ticket 112 8 = 0 ∧ field ticket 120 8 = 0 ∧ field ticket 128 6 = 0) ∧
        ∀ p, d.latched.plan = some p → p.tiers.length ≤ 8 → o.taxRate.toNat ≤ 5000 →
          (∀ t ∈ p.tiers, t.price.toNat ≤ 99999 ∧ t.charge.toNat ≤ 999999) →
          let x := priceOf p o.taxRate.toNat q
          field ticket 112 1 = p.number.val ∧ field ticket 113 1 = x.tier ∧ field ticket 114 3 = x.price ∧
            field ticket 117 3 = x.charge ∧ field ticket 120 4 = x.subtotal ∧ field ticket 124 2 = o.taxRate.toNat ∧
            field ticket 126 4 = x.tax ∧ field ticket 130 4 = x.total)) ∧
    (∀ interrupted, Delivery.finishTest l interrupted d = { d with
      final := some ⟨average, v, gross, net, none⟩
      testRun := some ⟨l, d.product, d.counts.g, gross, net, average, v, d.openTot, d.closeTot, interrupted, d.endTime⟩ }) ∧
    (∀ record : List Byte, record.length = 138 → ticketGood (interruptTicket record) = true ∧
      (interruptTicket record).length = 138 ∧ ∀ i, i < 134 → (interruptTicket record)[i]? =
        if i = 103 then record[i]?.map (· ||| 0x20) else record[i]?)

/-- Pricing: the first tier that is OPEN or whose bound × 100 is not less than Q, else the last; subtotal and tax rounded half up;
the total their sum; and the ranges of R122 (R119 to R122). -/
def Obligations.PricingByTier : Prop :=
  ∀ (p : PlanCopy) (r q : Nat), p.tiers ≠ [] →
    let x := priceOf p r q
    let takes := fun (t : Tier) => ∀ b, t.bound = some b → q ≤ b.toNat * 100
    let rounded := fun (n v : Nat) => 20000 * v ≤ 2 * n + 10000 ∧ 2 * n + 10000 < 20000 * (v + 1)
    (∃ i t, p.tiers[i]? = some t ∧ x.tier = i + 1 ∧ x.price = t.price.toNat ∧ x.charge = t.charge.toNat ∧
      (∀ j u, j < i → p.tiers[j]? = some u → ¬ takes u) ∧ (takes t ∨ i + 1 = p.tiers.length)) ∧
    x.charge ≤ x.subtotal ∧ rounded (q * x.price) (x.subtotal - x.charge) ∧ rounded (x.subtotal * r) x.tax ∧
    x.total = x.subtotal + x.tax ∧ x.taxRate = r ∧ x.plan = p.number ∧
    (q ≤ 9999999 → x.price ≤ 99999 → x.charge ≤ 999999 → r ≤ 5000 →
      x.subtotal ≤ 100998989 ∧ x.tax ≤ 50499495 ∧ x.total ≤ 151498484)

/-! ## The whole part -/

/-- After every command the outputs follow the state: a valve output is on exactly when its stage gives it and no hold applies, the
pump exactly when a line is FLOWING with no ESTOP, PUMP_FAULT or restart hold, DLV_FAULT exactly when a line is HALTED or UNVERIFIED
(R77, R78, R204). -/
def Obligations.OutputsFollowTheState : Prop :=
  ∀ (c : Instr) (s t : State), exec c s = .next t →
    (∀ l, let ln := t.line l
      (ln.mainOut = true ↔ ln.delivery.preset.stage = .full ∧ t.estopHold = false ∧ t.restartHold = false) ∧
      (ln.trickleOut = true ↔ ln.delivery.preset.stage ≠ .closed ∧ t.estopHold = false ∧ t.restartHold = false)) ∧
    (t.pump = true ↔ ((t.line .a).state = .flowing ∨ (t.line .b).state = .flowing) ∧ t.inputs.estop = false ∧
      t.inputs.pumpFault = false ∧ t.restartHold = false) ∧
    (t.dlvFault = true ↔ ∃ l, (t.line l).state = .halted ∨ (t.line l).state = .unverified)

/-- The nonvolatile store changes only at the completion of a write unit, at the restart save and by damage (R137, R140, R144), and
no request moves a totalizer, an unticketed volume or a count of G (R20). -/
def Obligations.StoreAndTotalsAreNotCommanded : Prop :=
  ∀ (c : Instr) (s t : State), exec c s = .next t →
    (writesStore c = false → t.store = s.store) ∧
    (isRequest c = true → ∀ l, (t.line l).totalizer = (s.line l).totalizer ∧ (t.line l).unticketed = (s.line l).unticketed ∧
      ((s.line l).state ≠ .idle → (t.line l).delivery.counts.g = (s.line l).delivery.counts.g))

/-- What is laid out as a body reads back as it was: an order, a plan, a product's settings, a calibration record and the body of
each other request, every field at every value of its range (R44, R49, R90, R96, R100, R113, R147 to R149, R161, R195, R199).
That the tax rate takes both bytes at offset 24 of a LOAD_ORDER body is the model's reading of a table that overlaps itself (log 9);
the widths of ADD and ARM_TEST are its own (log 18). -/
def Obligations.BodiesReadBackAsWritten : Prop :=
  (∀ o : OrderCopy, o.orderId ≠ 0 → 1 ≤ o.account.length → o.account.length ≤ 10 →
    (∀ c ∈ o.account, 32 ≤ c.toNat ∧ c.toNat ≤ 126) → o.taxRate.toNat ≤ 5000 →
    (match o.kind with
      | .volume => 1 ≤ o.amount.toNat ∧ o.amount.toNat ≤ 9999999
      | .fill => o.amount = 0) →
    parseLoadOrder (loadBody o) = some o) ∧
  (∀ (n : PlanNo) (ts : List Tier), ts.length ≤ 8 →
    (∀ t ∈ ts, (∀ b, t.bound = some b → 1 ≤ b.toNat ∧ b.toNat ≤ 99999) ∧ t.price.toNat ≤ 99999 ∧ t.charge.toNat ≤ 999999) →
    parseWritePlan (planData n ts) = some (n, ts)) ∧
  (∀ (p : Product) (c : Settings), c.name.length ≤ 12 → (∀ x ∈ c.name, 32 ≤ x.toNat ∧ x.toNat ≤ 126) →
    c.slowDown.toNat ≤ 99999 → 5 ≤ c.noFlow.toNat → c.noFlow.toNat ≤ 120 →
    parseSettings (beBytes 1 (productNo p) ++ padTo 12 c.name ++ beBytes 3 c.slowDown.toNat ++ beBytes 1 c.noFlow.toNat)
      = some (p, c)) ∧
  (∀ c : CalRecord, recordInRange c = true → parseWriteRecord (beBytes 1 (recordNo c.id) ++ contentBytes c) = some c) ∧
  (∀ (l : LineId) (n : SlotNo) (p : Product) (amount : Nat), 1 ≤ amount → amount ≤ 9999999 →
    let line := beBytes 1 (lineNo l)
    parseLine line = some l ∧ parseArm (line ++ beBytes 1 n.val) = some (l, n) ∧ parseSlot (beBytes 1 n.val) = some n ∧
      parseAdd (line ++ beBytes 3 amount) = some (l, amount) ∧
      parseArmTest ([0x01] ++ line ++ beBytes 1 (productNo p) ++ beBytes 3 amount) = some (l, p, some amount) ∧
      parseArmTest ([0x00] ++ line ++ beBytes 1 (productNo p) ++ beBytes 3 0) = some (l, p, none)) ∧
  (∀ number : Nat, number < 4294967296 → parseNumber32 (beBytes 4 number) = some number ∧
    (1 ≤ number → parseOrderId (beBytes 4 number) = some number ∧
      parseNumberOrKeyword ([0x01] ++ beBytes 4 number) = some (some number))) ∧
  parseNumberOrKeyword ([0x00] ++ beBytes 4 0) = some none ∧ (∀ k ≤ 31, parsePosition (beBytes 1 k) = some k) ∧
  (∀ n : PlanNo, parsePlanNo (beBytes 1 n.val) = some n) ∧ (∀ r, parseRecordId (beBytes 1 (recordNo r)) = some r) ∧
  ∀ key mask : BitVec 24, parseSearch (beBytes 3 key.toNat ++ beBytes 3 mask.toNat) = some (key, mask)

/-- Metering and valves: every command keeps G = Gs + Gp, close and running totalizers equal to the open totalizer plus G, counts
and VCF within their ranges, the valve CLOSED outside FLOWING and each timer running only in its own line state (R1, R8, R10, R20,
R29, R32, R66, R76). -/
def Obligations.MeteringInvariantIsKept : Prop :=
  ∀ (s t : State), MeterInv s → step s = .next t → MeterInv t

/-- Queues and counters: every command keeps the transmit and engine queues, the fault ring and overflow, the audit trail and the
plans within their places, and the lost counts, arrival sequence, device time, event counter, interruption counter, recovered counts
and pending recovery appends within their ranges, what is in the engine included, with no more entries TRANSFERRED than held, and
the engine and the link fronts as their phase allows; an audit trail that is not full is numbered from 1 (R99, R112, R127, R137, R138, R157, R158, R171, R182, R183, R191, R194, R200).
The counts of a delivery are in the metering invariant; entries plus reservations (R130) are in neither. -/
def Obligations.BufferInvariantIsKept : Prop :=
  ∀ (s t : State), BuffersInv s → step s = .next t → BuffersInv t

/-- Both invariants hold after reset.
Where reset stands is the model's choice (log 1). -/
def Obligations.InvariantsHoldAfterReset : Prop := MeterInv State.reset ∧ BuffersInv State.reset

end
end

