-- ==== Sys2Proof/Laws/Select.lean ====
section
/-! SUPPORT. What is read from a pair of lines, four products or three links after one of them is replaced. -/

namespace Sys2Proof

@[simp] theorem PerLine.get_set_same {α : Type} (x : PerLine α) (l : LineId) (v : α) : (x.set l v).get l = v := by
  cases l <;> rfl

theorem PerLine.get_set {α : Type} (x : PerLine α) (l m : LineId) (v : α) :
    (x.set l v).get m = if m = l then v else x.get m := by
  cases l <;> cases m <;> rfl

theorem PerLine.get_set_ne {α : Type} (x : PerLine α) (v : α) {l m : LineId} (h : m ≠ l) : (x.set l v).get m = x.get m := by
  simp [PerLine.get_set, h]

@[simp] theorem PerLine.set_get {α : Type} (x : PerLine α) (l : LineId) : x.set l (x.get l) = x := by
  cases l <;> rfl

@[simp] theorem PerLine.set_set {α : Type} (x : PerLine α) (l : LineId) (v v' : α) : (x.set l v).set l v' = x.set l v' := by
  cases l <;> rfl

@[simp] theorem PerProduct.get_set_same {α : Type} (x : PerProduct α) (p : Product) (v : α) : (x.set p v).get p = v := by
  cases p <;> rfl

theorem PerProduct.get_set_ne {α : Type} (x : PerProduct α) (v : α) {p q : Product} (h : q ≠ p) :
    (x.set p v).get q = x.get q := by
  cases p <;> cases q <;> first | rfl | exact absurd rfl h

@[simp] theorem LineId.other_other (l : LineId) : l.other.other = l := by cases l <;> rfl

@[simp] theorem LineId.other_ne (l : LineId) : l.other ≠ l := by cases l <;> decide

namespace Machine

@[simp] theorem PerLink.get_set_same {α : Type} (x : PerLink α) (l : Link) (v : α) : (x.set l v).get l = v := by
  cases l <;> rfl

theorem PerLink.get_set {α : Type} (x : PerLink α) (l m : Link) (v : α) :
    (x.set l v).get m = if m = l then v else x.get m := by
  cases l <;> cases m <;> rfl

@[simp] theorem PerLink.set_get {α : Type} (x : PerLink α) (l : Link) : x.set l (x.get l) = x := by
  cases l <;> rfl

@[simp] theorem PerLink.set_set {α : Type} (x : PerLink α) (l : Link) (v v' : α) : (x.set l v).set l v' = x.set l v' := by
  cases l <;> rfl

end Machine
end Sys2Proof
end

