-- ==== Sys2Proof/Laws/State.lean ====
section
/-! SUPPORT. Each field of State after each update, true by unfolding: the fields an update leaves alone, and the ones it
sets where that can be said in one line. -/

namespace Sys2Proof.Machine

@[simp] theorem State.setLine_pending (s : State) (l : LineId) (ln : Line) : (s.setLine l ln).pending = s.pending := rfl
@[simp] theorem State.setLine_pump (s : State) (l : LineId) (ln : Line) : (s.setLine l ln).pump = s.pump := rfl
@[simp] theorem State.setLine_dlvFault (s : State) (l : LineId) (ln : Line) : (s.setLine l ln).dlvFault = s.dlvFault := rfl
@[simp] theorem State.setLine_estopHold (s : State) (l : LineId) (ln : Line) : (s.setLine l ln).estopHold = s.estopHold := rfl
@[simp] theorem State.setLine_restartHold (s : State) (l : LineId) (ln : Line) : (s.setLine l ln).restartHold = s.restartHold := rfl
@[simp] theorem State.setLine_inputs (s : State) (l : LineId) (ln : Line) : (s.setLine l ln).inputs = s.inputs := rfl
@[simp] theorem State.setLine_orders (s : State) (l : LineId) (ln : Line) : (s.setLine l ln).orders = s.orders := rfl
@[simp] theorem State.setLine_plans (s : State) (l : LineId) (ln : Line) : (s.setLine l ln).plans = s.plans := rfl
@[simp] theorem State.setLine_journal (s : State) (l : LineId) (ln : Line) : (s.setLine l ln).journal = s.journal := rfl
@[simp] theorem State.setLine_engine (s : State) (l : LineId) (ln : Line) : (s.setLine l ln).engine = s.engine := rfl
@[simp] theorem State.setLine_cal (s : State) (l : LineId) (ln : Line) : (s.setLine l ln).cal = s.cal := rfl
@[simp] theorem State.setLine_restart (s : State) (l : LineId) (ln : Line) : (s.setLine l ln).restart = s.restart := rfl
@[simp] theorem State.setLine_faultLog (s : State) (l : LineId) (ln : Line) : (s.setLine l ln).faultLog = s.faultLog := rfl
@[simp] theorem State.setLine_links (s : State) (l : LineId) (ln : Line) : (s.setLine l ln).links = s.links := rfl
@[simp] theorem State.setLine_store (s : State) (l : LineId) (ln : Line) : (s.setLine l ln).store = s.store := rfl

@[simp] theorem State.setDelivery_pending (s : State) (l : LineId) (d : Delivery) : (s.setDelivery l d).pending = s.pending := rfl
@[simp] theorem State.setDelivery_pump (s : State) (l : LineId) (d : Delivery) : (s.setDelivery l d).pump = s.pump := rfl
@[simp] theorem State.setDelivery_dlvFault (s : State) (l : LineId) (d : Delivery) : (s.setDelivery l d).dlvFault = s.dlvFault := rfl
@[simp] theorem State.setDelivery_estopHold (s : State) (l : LineId) (d : Delivery) : (s.setDelivery l d).estopHold = s.estopHold := rfl
@[simp] theorem State.setDelivery_restartHold (s : State) (l : LineId) (d : Delivery) : (s.setDelivery l d).restartHold = s.restartHold := rfl
@[simp] theorem State.setDelivery_inputs (s : State) (l : LineId) (d : Delivery) : (s.setDelivery l d).inputs = s.inputs := rfl
@[simp] theorem State.setDelivery_orders (s : State) (l : LineId) (d : Delivery) : (s.setDelivery l d).orders = s.orders := rfl
@[simp] theorem State.setDelivery_plans (s : State) (l : LineId) (d : Delivery) : (s.setDelivery l d).plans = s.plans := rfl
@[simp] theorem State.setDelivery_journal (s : State) (l : LineId) (d : Delivery) : (s.setDelivery l d).journal = s.journal := rfl
@[simp] theorem State.setDelivery_engine (s : State) (l : LineId) (d : Delivery) : (s.setDelivery l d).engine = s.engine := rfl
@[simp] theorem State.setDelivery_cal (s : State) (l : LineId) (d : Delivery) : (s.setDelivery l d).cal = s.cal := rfl
@[simp] theorem State.setDelivery_restart (s : State) (l : LineId) (d : Delivery) : (s.setDelivery l d).restart = s.restart := rfl
@[simp] theorem State.setDelivery_faultLog (s : State) (l : LineId) (d : Delivery) : (s.setDelivery l d).faultLog = s.faultLog := rfl
@[simp] theorem State.setDelivery_links (s : State) (l : LineId) (d : Delivery) : (s.setDelivery l d).links = s.links := rfl
@[simp] theorem State.setDelivery_store (s : State) (l : LineId) (d : Delivery) : (s.setDelivery l d).store = s.store := rfl

@[simp] theorem State.setFront_pending (s : State) (l : Link) (f : LinkFront) : (s.setFront l f).pending = s.pending := rfl
@[simp] theorem State.setFront_lines (s : State) (l : Link) (f : LinkFront) : (s.setFront l f).lines = s.lines := rfl
@[simp] theorem State.setFront_pump (s : State) (l : Link) (f : LinkFront) : (s.setFront l f).pump = s.pump := rfl
@[simp] theorem State.setFront_dlvFault (s : State) (l : Link) (f : LinkFront) : (s.setFront l f).dlvFault = s.dlvFault := rfl
@[simp] theorem State.setFront_estopHold (s : State) (l : Link) (f : LinkFront) : (s.setFront l f).estopHold = s.estopHold := rfl
@[simp] theorem State.setFront_restartHold (s : State) (l : Link) (f : LinkFront) : (s.setFront l f).restartHold = s.restartHold := rfl
@[simp] theorem State.setFront_inputs (s : State) (l : Link) (f : LinkFront) : (s.setFront l f).inputs = s.inputs := rfl
@[simp] theorem State.setFront_orders (s : State) (l : Link) (f : LinkFront) : (s.setFront l f).orders = s.orders := rfl
@[simp] theorem State.setFront_plans (s : State) (l : Link) (f : LinkFront) : (s.setFront l f).plans = s.plans := rfl
@[simp] theorem State.setFront_journal (s : State) (l : Link) (f : LinkFront) : (s.setFront l f).journal = s.journal := rfl
@[simp] theorem State.setFront_engine (s : State) (l : Link) (f : LinkFront) : (s.setFront l f).engine = s.engine := rfl
@[simp] theorem State.setFront_cal (s : State) (l : Link) (f : LinkFront) : (s.setFront l f).cal = s.cal := rfl
@[simp] theorem State.setFront_restart (s : State) (l : Link) (f : LinkFront) : (s.setFront l f).restart = s.restart := rfl
@[simp] theorem State.setFront_faultLog (s : State) (l : Link) (f : LinkFront) : (s.setFront l f).faultLog = s.faultLog := rfl
@[simp] theorem State.setFront_store (s : State) (l : Link) (f : LinkFront) : (s.setFront l f).store = s.store := rfl

@[simp] theorem State.toHunt_pending (s : State) (l : Link) : (s.toHunt l).pending = s.pending := rfl
@[simp] theorem State.toHunt_lines (s : State) (l : Link) : (s.toHunt l).lines = s.lines := rfl
@[simp] theorem State.toHunt_pump (s : State) (l : Link) : (s.toHunt l).pump = s.pump := rfl
@[simp] theorem State.toHunt_dlvFault (s : State) (l : Link) : (s.toHunt l).dlvFault = s.dlvFault := rfl
@[simp] theorem State.toHunt_estopHold (s : State) (l : Link) : (s.toHunt l).estopHold = s.estopHold := rfl
@[simp] theorem State.toHunt_restartHold (s : State) (l : Link) : (s.toHunt l).restartHold = s.restartHold := rfl
@[simp] theorem State.toHunt_inputs (s : State) (l : Link) : (s.toHunt l).inputs = s.inputs := rfl
@[simp] theorem State.toHunt_orders (s : State) (l : Link) : (s.toHunt l).orders = s.orders := rfl
@[simp] theorem State.toHunt_plans (s : State) (l : Link) : (s.toHunt l).plans = s.plans := rfl
@[simp] theorem State.toHunt_journal (s : State) (l : Link) : (s.toHunt l).journal = s.journal := rfl
@[simp] theorem State.toHunt_engine (s : State) (l : Link) : (s.toHunt l).engine = s.engine := rfl
@[simp] theorem State.toHunt_cal (s : State) (l : Link) : (s.toHunt l).cal = s.cal := rfl
@[simp] theorem State.toHunt_restart (s : State) (l : Link) : (s.toHunt l).restart = s.restart := rfl
@[simp] theorem State.toHunt_faultLog (s : State) (l : Link) : (s.toHunt l).faultLog = s.faultLog := rfl
@[simp] theorem State.toHunt_store (s : State) (l : Link) : (s.toHunt l).store = s.store := rfl

@[simp] theorem State.send_pending (s : State) (l : Link) (x : TxFrame) : (s.send l x).pending = s.pending := rfl
@[simp] theorem State.send_lines (s : State) (l : Link) (x : TxFrame) : (s.send l x).lines = s.lines := rfl
@[simp] theorem State.send_pump (s : State) (l : Link) (x : TxFrame) : (s.send l x).pump = s.pump := rfl
@[simp] theorem State.send_dlvFault (s : State) (l : Link) (x : TxFrame) : (s.send l x).dlvFault = s.dlvFault := rfl
@[simp] theorem State.send_estopHold (s : State) (l : Link) (x : TxFrame) : (s.send l x).estopHold = s.estopHold := rfl
@[simp] theorem State.send_restartHold (s : State) (l : Link) (x : TxFrame) : (s.send l x).restartHold = s.restartHold := rfl
@[simp] theorem State.send_inputs (s : State) (l : Link) (x : TxFrame) : (s.send l x).inputs = s.inputs := rfl
@[simp] theorem State.send_orders (s : State) (l : Link) (x : TxFrame) : (s.send l x).orders = s.orders := rfl
@[simp] theorem State.send_plans (s : State) (l : Link) (x : TxFrame) : (s.send l x).plans = s.plans := rfl
@[simp] theorem State.send_journal (s : State) (l : Link) (x : TxFrame) : (s.send l x).journal = s.journal := rfl
@[simp] theorem State.send_engine (s : State) (l : Link) (x : TxFrame) : (s.send l x).engine = s.engine := rfl
@[simp] theorem State.send_cal (s : State) (l : Link) (x : TxFrame) : (s.send l x).cal = s.cal := rfl
@[simp] theorem State.send_restart (s : State) (l : Link) (x : TxFrame) : (s.send l x).restart = s.restart := rfl
@[simp] theorem State.send_faultLog (s : State) (l : Link) (x : TxFrame) : (s.send l x).faultLog = s.faultLog := rfl
@[simp] theorem State.send_store (s : State) (l : Link) (x : TxFrame) : (s.send l x).store = s.store := rfl

@[simp] theorem State.goInFlight_pending (s : State) (u : WriteUnit) : (s.goInFlight u).pending = s.pending := rfl
@[simp] theorem State.goInFlight_lines (s : State) (u : WriteUnit) : (s.goInFlight u).lines = s.lines := rfl
@[simp] theorem State.goInFlight_pump (s : State) (u : WriteUnit) : (s.goInFlight u).pump = s.pump := rfl
@[simp] theorem State.goInFlight_dlvFault (s : State) (u : WriteUnit) : (s.goInFlight u).dlvFault = s.dlvFault := rfl
@[simp] theorem State.goInFlight_estopHold (s : State) (u : WriteUnit) : (s.goInFlight u).estopHold = s.estopHold := rfl
@[simp] theorem State.goInFlight_restartHold (s : State) (u : WriteUnit) : (s.goInFlight u).restartHold = s.restartHold := rfl
@[simp] theorem State.goInFlight_inputs (s : State) (u : WriteUnit) : (s.goInFlight u).inputs = s.inputs := rfl
@[simp] theorem State.goInFlight_orders (s : State) (u : WriteUnit) : (s.goInFlight u).orders = s.orders := rfl
@[simp] theorem State.goInFlight_plans (s : State) (u : WriteUnit) : (s.goInFlight u).plans = s.plans := rfl
@[simp] theorem State.goInFlight_journal (s : State) (u : WriteUnit) : (s.goInFlight u).journal = s.journal := rfl
@[simp] theorem State.goInFlight_restart (s : State) (u : WriteUnit) : (s.goInFlight u).restart = s.restart := rfl
@[simp] theorem State.goInFlight_links (s : State) (u : WriteUnit) : (s.goInFlight u).links = s.links := rfl
@[simp] theorem State.goInFlight_store (s : State) (u : WriteUnit) : (s.goInFlight u).store = s.store := rfl

@[simp] theorem State.drive_pending (s : State) : (s.drive).pending = s.pending := rfl
@[simp] theorem State.drive_estopHold (s : State) : (s.drive).estopHold = s.estopHold := rfl
@[simp] theorem State.drive_restartHold (s : State) : (s.drive).restartHold = s.restartHold := rfl
@[simp] theorem State.drive_inputs (s : State) : (s.drive).inputs = s.inputs := rfl
@[simp] theorem State.drive_orders (s : State) : (s.drive).orders = s.orders := rfl
@[simp] theorem State.drive_plans (s : State) : (s.drive).plans = s.plans := rfl
@[simp] theorem State.drive_journal (s : State) : (s.drive).journal = s.journal := rfl
@[simp] theorem State.drive_engine (s : State) : (s.drive).engine = s.engine := rfl
@[simp] theorem State.drive_cal (s : State) : (s.drive).cal = s.cal := rfl
@[simp] theorem State.drive_restart (s : State) : (s.drive).restart = s.restart := rfl
@[simp] theorem State.drive_faultLog (s : State) : (s.drive).faultLog = s.faultLog := rfl
@[simp] theorem State.drive_links (s : State) : (s.drive).links = s.links := rfl
@[simp] theorem State.drive_store (s : State) : (s.drive).store = s.store := rfl

@[simp] theorem State.setLine_lines (s : State) (l : LineId) (ln : Line) : (s.setLine l ln).lines = s.lines.set l ln := rfl
@[simp] theorem State.setLine_line (s : State) (l : LineId) (ln : Line) : (s.setLine l ln).line l = ln := by
  simp [State.line]
@[simp] theorem State.setDelivery_delivery (s : State) (l : LineId) (d : Delivery) :
    ((s.setDelivery l d).line l).delivery = d := by simp [State.setDelivery]
@[simp] theorem State.setFront_links (s : State) (l : Link) (f : LinkFront) : (s.setFront l f).links = s.links.set l f := rfl
@[simp] theorem State.setFront_front (s : State) (l : Link) (f : LinkFront) : (s.setFront l f).front l = f := by
  simp [State.front]
@[simp] theorem State.setFront_line (s : State) (l : Link) (f : LinkFront) (m : LineId) :
    (s.setFront l f).line m = s.line m := rfl
@[simp] theorem State.send_line (s : State) (l : Link) (x : TxFrame) (m : LineId) : (s.send l x).line m = s.line m := rfl
@[simp] theorem State.toHunt_line (s : State) (l : Link) (m : LineId) : (s.toHunt l).line m = s.line m := rfl
@[simp] theorem State.drive_pumpOut (s : State) : s.drive.pump = s.pumpCondition := rfl

theorem State.setLine_line_ne (s : State) (ln : Line) {l m : LineId} (h : m ≠ l) : (s.setLine l ln).line m = s.line m := by
  simp [State.line, PerLine.get_set_ne _ _ h]

theorem State.drive_line (s : State) (l : LineId) : s.drive.line l = (s.line l).driven s.held := by
  cases l <;> rfl

/-- The outputs follow the state: driving them again changes nothing. -/
@[simp] theorem State.drive_drive (s : State) : s.drive.drive = s.drive := rfl

@[simp] theorem FaultLog.settled_ring (f : FaultLog) : f.settled.ring = f.ring := rfl
@[simp] theorem FaultLog.settled_overflow (f : FaultLog) : f.settled.overflow = [] := rfl
@[simp] theorem FaultLog.settled_lost (f : FaultLog) : f.settled.lost = 0 := rfl
@[simp] theorem FaultLog.settled_outstanding (f : FaultLog) : f.settled.outstanding = none := rfl
@[simp] theorem FaultLog.settled_wanted (f : FaultLog) : f.settled.wanted = false := rfl

@[simp] theorem RingEntry.taken_entry (e : RingEntry) : e.taken.entry = e.entry := rfl
@[simp] theorem RingEntry.taken_stored (e : RingEntry) : e.taken.stored = e.stored := rfl
@[simp] theorem RingEntry.taken_carried (e : RingEntry) : e.taken.carried = true := rfl
@[simp] theorem RingEntry.completed_entry (e : RingEntry) : e.completed.entry = e.entry := rfl
@[simp] theorem RingEntry.completed_stored (e : RingEntry) : e.completed.stored = (e.stored || e.carried) := rfl
@[simp] theorem RingEntry.completed_carried (e : RingEntry) : e.completed.carried = false := rfl

end Sys2Proof.Machine
end

