-- ==== Sys2Proof/Laws/Ops.lean ====
section
/-! SUPPORT. What the shared operations can do: the engine's, the fault log's, the link fronts' and the changes of line
state, each said once. -/

namespace Sys2Proof.Machine

/-! ## Write engine and fault log: the fields they leave alone -/

@[simp] theorem State.hand_pending (s : State) (u : WriteUnit) : (s.hand u).pending = s.pending := by
  unfold State.hand
  repeat' split
  all_goals rfl
@[simp] theorem State.hand_lines (s : State) (u : WriteUnit) : (s.hand u).lines = s.lines := by
  unfold State.hand
  repeat' split
  all_goals rfl
@[simp] theorem State.hand_pump (s : State) (u : WriteUnit) : (s.hand u).pump = s.pump := by
  unfold State.hand
  repeat' split
  all_goals rfl
@[simp] theorem State.hand_dlvFault (s : State) (u : WriteUnit) : (s.hand u).dlvFault = s.dlvFault := by
  unfold State.hand
  repeat' split
  all_goals rfl
@[simp] theorem State.hand_estopHold (s : State) (u : WriteUnit) : (s.hand u).estopHold = s.estopHold := by
  unfold State.hand
  repeat' split
  all_goals rfl
@[simp] theorem State.hand_restartHold (s : State) (u : WriteUnit) : (s.hand u).restartHold = s.restartHold := by
  unfold State.hand
  repeat' split
  all_goals rfl
@[simp] theorem State.hand_inputs (s : State) (u : WriteUnit) : (s.hand u).inputs = s.inputs := by
  unfold State.hand
  repeat' split
  all_goals rfl
@[simp] theorem State.hand_orders (s : State) (u : WriteUnit) : (s.hand u).orders = s.orders := by
  unfold State.hand
  repeat' split
  all_goals rfl
@[simp] theorem State.hand_plans (s : State) (u : WriteUnit) : (s.hand u).plans = s.plans := by
  unfold State.hand
  repeat' split
  all_goals rfl
@[simp] theorem State.hand_journal (s : State) (u : WriteUnit) : (s.hand u).journal = s.journal := by
  unfold State.hand
  repeat' split
  all_goals rfl
@[simp] theorem State.hand_restart (s : State) (u : WriteUnit) : (s.hand u).restart = s.restart := by
  unfold State.hand
  repeat' split
  all_goals rfl
@[simp] theorem State.hand_links (s : State) (u : WriteUnit) : (s.hand u).links = s.links := by
  unfold State.hand
  repeat' split
  all_goals rfl
@[simp] theorem State.hand_store (s : State) (u : WriteUnit) : (s.hand u).store = s.store := by
  unfold State.hand
  repeat' split
  all_goals rfl

@[simp] theorem State.engineNext_pending (s : State) : (s.engineNext).pending = s.pending := by
  unfold State.engineNext
  repeat' split
  all_goals rfl
@[simp] theorem State.engineNext_lines (s : State) : (s.engineNext).lines = s.lines := by
  unfold State.engineNext
  repeat' split
  all_goals rfl
@[simp] theorem State.engineNext_pump (s : State) : (s.engineNext).pump = s.pump := by
  unfold State.engineNext
  repeat' split
  all_goals rfl
@[simp] theorem State.engineNext_dlvFault (s : State) : (s.engineNext).dlvFault = s.dlvFault := by
  unfold State.engineNext
  repeat' split
  all_goals rfl
@[simp] theorem State.engineNext_estopHold (s : State) : (s.engineNext).estopHold = s.estopHold := by
  unfold State.engineNext
  repeat' split
  all_goals rfl
@[simp] theorem State.engineNext_restartHold (s : State) : (s.engineNext).restartHold = s.restartHold := by
  unfold State.engineNext
  repeat' split
  all_goals rfl
@[simp] theorem State.engineNext_inputs (s : State) : (s.engineNext).inputs = s.inputs := by
  unfold State.engineNext
  repeat' split
  all_goals rfl
@[simp] theorem State.engineNext_orders (s : State) : (s.engineNext).orders = s.orders := by
  unfold State.engineNext
  repeat' split
  all_goals rfl
@[simp] theorem State.engineNext_plans (s : State) : (s.engineNext).plans = s.plans := by
  unfold State.engineNext
  repeat' split
  all_goals rfl
@[simp] theorem State.engineNext_journal (s : State) : (s.engineNext).journal = s.journal := by
  unfold State.engineNext
  repeat' split
  all_goals rfl
@[simp] theorem State.engineNext_restart (s : State) : (s.engineNext).restart = s.restart := by
  unfold State.engineNext
  repeat' split
  all_goals rfl
@[simp] theorem State.engineNext_links (s : State) : (s.engineNext).links = s.links := by
  unfold State.engineNext
  repeat' split
  all_goals rfl
@[simp] theorem State.engineNext_store (s : State) : (s.engineNext).store = s.store := by
  unfold State.engineNext
  repeat' split
  all_goals rfl

@[simp] theorem State.handFaultLog_pending (s : State) : (s.handFaultLog).pending = s.pending := by
  simp [State.handFaultLog]
@[simp] theorem State.handFaultLog_lines (s : State) : (s.handFaultLog).lines = s.lines := by
  simp [State.handFaultLog]
@[simp] theorem State.handFaultLog_pump (s : State) : (s.handFaultLog).pump = s.pump := by
  simp [State.handFaultLog]
@[simp] theorem State.handFaultLog_dlvFault (s : State) : (s.handFaultLog).dlvFault = s.dlvFault := by
  simp [State.handFaultLog]
@[simp] theorem State.handFaultLog_estopHold (s : State) : (s.handFaultLog).estopHold = s.estopHold := by
  simp [State.handFaultLog]
@[simp] theorem State.handFaultLog_restartHold (s : State) : (s.handFaultLog).restartHold = s.restartHold := by
  simp [State.handFaultLog]
@[simp] theorem State.handFaultLog_inputs (s : State) : (s.handFaultLog).inputs = s.inputs := by
  simp [State.handFaultLog]
@[simp] theorem State.handFaultLog_orders (s : State) : (s.handFaultLog).orders = s.orders := by
  simp [State.handFaultLog]
@[simp] theorem State.handFaultLog_plans (s : State) : (s.handFaultLog).plans = s.plans := by
  simp [State.handFaultLog]
@[simp] theorem State.handFaultLog_journal (s : State) : (s.handFaultLog).journal = s.journal := by
  simp [State.handFaultLog]
@[simp] theorem State.handFaultLog_restart (s : State) : (s.handFaultLog).restart = s.restart := by
  simp [State.handFaultLog]
@[simp] theorem State.handFaultLog_links (s : State) : (s.handFaultLog).links = s.links := by
  simp [State.handFaultLog]
@[simp] theorem State.handFaultLog_store (s : State) : (s.handFaultLog).store = s.store := by
  simp [State.handFaultLog]

@[simp] theorem State.logFault_pending (s : State) (e : FaultEntry) : (s.logFault e).pending = s.pending := by
  unfold State.logFault
  dsimp only
  repeat' split
  all_goals simp
@[simp] theorem State.logFault_lines (s : State) (e : FaultEntry) : (s.logFault e).lines = s.lines := by
  unfold State.logFault
  dsimp only
  repeat' split
  all_goals simp
@[simp] theorem State.logFault_pump (s : State) (e : FaultEntry) : (s.logFault e).pump = s.pump := by
  unfold State.logFault
  dsimp only
  repeat' split
  all_goals simp
@[simp] theorem State.logFault_dlvFault (s : State) (e : FaultEntry) : (s.logFault e).dlvFault = s.dlvFault := by
  unfold State.logFault
  dsimp only
  repeat' split
  all_goals simp
@[simp] theorem State.logFault_estopHold (s : State) (e : FaultEntry) : (s.logFault e).estopHold = s.estopHold := by
  unfold State.logFault
  dsimp only
  repeat' split
  all_goals simp
@[simp] theorem State.logFault_restartHold (s : State) (e : FaultEntry) : (s.logFault e).restartHold = s.restartHold := by
  unfold State.logFault
  dsimp only
  repeat' split
  all_goals simp
@[simp] theorem State.logFault_inputs (s : State) (e : FaultEntry) : (s.logFault e).inputs = s.inputs := by
  unfold State.logFault
  dsimp only
  repeat' split
  all_goals simp
@[simp] theorem State.logFault_orders (s : State) (e : FaultEntry) : (s.logFault e).orders = s.orders := by
  unfold State.logFault
  dsimp only
  repeat' split
  all_goals simp
@[simp] theorem State.logFault_plans (s : State) (e : FaultEntry) : (s.logFault e).plans = s.plans := by
  unfold State.logFault
  dsimp only
  repeat' split
  all_goals simp
@[simp] theorem State.logFault_journal (s : State) (e : FaultEntry) : (s.logFault e).journal = s.journal := by
  unfold State.logFault
  dsimp only
  repeat' split
  all_goals simp
@[simp] theorem State.logFault_restart (s : State) (e : FaultEntry) : (s.logFault e).restart = s.restart := by
  unfold State.logFault
  dsimp only
  repeat' split
  all_goals simp
@[simp] theorem State.logFault_links (s : State) (e : FaultEntry) : (s.logFault e).links = s.links := by
  unfold State.logFault
  dsimp only
  repeat' split
  all_goals simp
@[simp] theorem State.logFault_store (s : State) (e : FaultEntry) : (s.logFault e).store = s.store := by
  unfold State.logFault
  dsimp only
  repeat' split
  all_goals simp

@[simp] theorem State.offerFaultLog_pending (s : State) : (s.offerFaultLog).pending = s.pending := by
  unfold State.offerFaultLog
  dsimp only
  repeat' split
  all_goals simp
@[simp] theorem State.offerFaultLog_lines (s : State) : (s.offerFaultLog).lines = s.lines := by
  unfold State.offerFaultLog
  dsimp only
  repeat' split
  all_goals simp
@[simp] theorem State.offerFaultLog_pump (s : State) : (s.offerFaultLog).pump = s.pump := by
  unfold State.offerFaultLog
  dsimp only
  repeat' split
  all_goals simp
@[simp] theorem State.offerFaultLog_dlvFault (s : State) : (s.offerFaultLog).dlvFault = s.dlvFault := by
  unfold State.offerFaultLog
  dsimp only
  repeat' split
  all_goals simp
@[simp] theorem State.offerFaultLog_estopHold (s : State) : (s.offerFaultLog).estopHold = s.estopHold := by
  unfold State.offerFaultLog
  dsimp only
  repeat' split
  all_goals simp
@[simp] theorem State.offerFaultLog_restartHold (s : State) : (s.offerFaultLog).restartHold = s.restartHold := by
  unfold State.offerFaultLog
  dsimp only
  repeat' split
  all_goals simp
@[simp] theorem State.offerFaultLog_inputs (s : State) : (s.offerFaultLog).inputs = s.inputs := by
  unfold State.offerFaultLog
  dsimp only
  repeat' split
  all_goals simp
@[simp] theorem State.offerFaultLog_orders (s : State) : (s.offerFaultLog).orders = s.orders := by
  unfold State.offerFaultLog
  dsimp only
  repeat' split
  all_goals simp
@[simp] theorem State.offerFaultLog_plans (s : State) : (s.offerFaultLog).plans = s.plans := by
  unfold State.offerFaultLog
  dsimp only
  repeat' split
  all_goals simp
@[simp] theorem State.offerFaultLog_journal (s : State) : (s.offerFaultLog).journal = s.journal := by
  unfold State.offerFaultLog
  dsimp only
  repeat' split
  all_goals simp
@[simp] theorem State.offerFaultLog_restart (s : State) : (s.offerFaultLog).restart = s.restart := by
  unfold State.offerFaultLog
  dsimp only
  repeat' split
  all_goals simp
@[simp] theorem State.offerFaultLog_links (s : State) : (s.offerFaultLog).links = s.links := by
  unfold State.offerFaultLog
  dsimp only
  repeat' split
  all_goals simp
@[simp] theorem State.offerFaultLog_store (s : State) : (s.offerFaultLog).store = s.store := by
  unfold State.offerFaultLog
  dsimp only
  repeat' split
  all_goals simp

@[simp] theorem State.placeFree_pending (s : State) : (s.placeFree).pending = s.pending := by
  unfold State.placeFree
  split <;> simp
@[simp] theorem State.placeFree_lines (s : State) : (s.placeFree).lines = s.lines := by
  unfold State.placeFree
  split <;> simp
@[simp] theorem State.placeFree_pump (s : State) : (s.placeFree).pump = s.pump := by
  unfold State.placeFree
  split <;> simp
@[simp] theorem State.placeFree_dlvFault (s : State) : (s.placeFree).dlvFault = s.dlvFault := by
  unfold State.placeFree
  split <;> simp
@[simp] theorem State.placeFree_estopHold (s : State) : (s.placeFree).estopHold = s.estopHold := by
  unfold State.placeFree
  split <;> simp
@[simp] theorem State.placeFree_restartHold (s : State) : (s.placeFree).restartHold = s.restartHold := by
  unfold State.placeFree
  split <;> simp
@[simp] theorem State.placeFree_inputs (s : State) : (s.placeFree).inputs = s.inputs := by
  unfold State.placeFree
  split <;> simp
@[simp] theorem State.placeFree_orders (s : State) : (s.placeFree).orders = s.orders := by
  unfold State.placeFree
  split <;> simp
@[simp] theorem State.placeFree_plans (s : State) : (s.placeFree).plans = s.plans := by
  unfold State.placeFree
  split <;> simp
@[simp] theorem State.placeFree_journal (s : State) : (s.placeFree).journal = s.journal := by
  unfold State.placeFree
  split <;> simp
@[simp] theorem State.placeFree_restart (s : State) : (s.placeFree).restart = s.restart := by
  unfold State.placeFree
  split <;> simp
@[simp] theorem State.placeFree_links (s : State) : (s.placeFree).links = s.links := by
  unfold State.placeFree
  split <;> simp
@[simp] theorem State.placeFree_store (s : State) : (s.placeFree).store = s.store := by
  unfold State.placeFree
  split <;> simp

/-! ## Link fronts -/

@[simp] theorem State.sendNotices_pending (s : State) (ns : List Notice) : (s.sendNotices ns).pending = s.pending := by
  induction ns generalizing s with
  | nil => rfl
  | cons n ns ih => exact (ih _).trans rfl
@[simp] theorem State.sendNotices_lines (s : State) (ns : List Notice) : (s.sendNotices ns).lines = s.lines := by
  induction ns generalizing s with
  | nil => rfl
  | cons n ns ih => exact (ih _).trans rfl
@[simp] theorem State.sendNotices_pump (s : State) (ns : List Notice) : (s.sendNotices ns).pump = s.pump := by
  induction ns generalizing s with
  | nil => rfl
  | cons n ns ih => exact (ih _).trans rfl
@[simp] theorem State.sendNotices_dlvFault (s : State) (ns : List Notice) : (s.sendNotices ns).dlvFault = s.dlvFault := by
  induction ns generalizing s with
  | nil => rfl
  | cons n ns ih => exact (ih _).trans rfl
@[simp] theorem State.sendNotices_estopHold (s : State) (ns : List Notice) : (s.sendNotices ns).estopHold = s.estopHold := by
  induction ns generalizing s with
  | nil => rfl
  | cons n ns ih => exact (ih _).trans rfl
@[simp] theorem State.sendNotices_restartHold (s : State) (ns : List Notice) : (s.sendNotices ns).restartHold = s.restartHold := by
  induction ns generalizing s with
  | nil => rfl
  | cons n ns ih => exact (ih _).trans rfl
@[simp] theorem State.sendNotices_inputs (s : State) (ns : List Notice) : (s.sendNotices ns).inputs = s.inputs := by
  induction ns generalizing s with
  | nil => rfl
  | cons n ns ih => exact (ih _).trans rfl
@[simp] theorem State.sendNotices_orders (s : State) (ns : List Notice) : (s.sendNotices ns).orders = s.orders := by
  induction ns generalizing s with
  | nil => rfl
  | cons n ns ih => exact (ih _).trans rfl
@[simp] theorem State.sendNotices_plans (s : State) (ns : List Notice) : (s.sendNotices ns).plans = s.plans := by
  induction ns generalizing s with
  | nil => rfl
  | cons n ns ih => exact (ih _).trans rfl
@[simp] theorem State.sendNotices_journal (s : State) (ns : List Notice) : (s.sendNotices ns).journal = s.journal := by
  induction ns generalizing s with
  | nil => rfl
  | cons n ns ih => exact (ih _).trans rfl
@[simp] theorem State.sendNotices_engine (s : State) (ns : List Notice) : (s.sendNotices ns).engine = s.engine := by
  induction ns generalizing s with
  | nil => rfl
  | cons n ns ih => exact (ih _).trans rfl
@[simp] theorem State.sendNotices_cal (s : State) (ns : List Notice) : (s.sendNotices ns).cal = s.cal := by
  induction ns generalizing s with
  | nil => rfl
  | cons n ns ih => exact (ih _).trans rfl
@[simp] theorem State.sendNotices_restart (s : State) (ns : List Notice) : (s.sendNotices ns).restart = s.restart := by
  induction ns generalizing s with
  | nil => rfl
  | cons n ns ih => exact (ih _).trans rfl
@[simp] theorem State.sendNotices_faultLog (s : State) (ns : List Notice) : (s.sendNotices ns).faultLog = s.faultLog := by
  induction ns generalizing s with
  | nil => rfl
  | cons n ns ih => exact (ih _).trans rfl
@[simp] theorem State.sendNotices_store (s : State) (ns : List Notice) : (s.sendNotices ns).store = s.store := by
  induction ns generalizing s with
  | nil => rfl
  | cons n ns ih => exact (ih _).trans rfl

@[simp] theorem State.sendNotices_nil (s : State) : s.sendNotices [] = s := rfl

@[simp] theorem State.sendNotices_cons (s : State) (n : Notice) (ns : List Notice) :
    s.sendNotices (n :: ns) = (s.send n.link ⟨.notice n.kind, noticeByte n.kind, n.body⟩).sendNotices ns := rfl

theorem removeFirst_length {α : Type} {p : α → Bool} {xs ys : List α} (h : removeFirst p xs = some ys) :
    ys.length + 1 = xs.length := by
  induction xs generalizing ys with
  | nil => simp [removeFirst] at h
  | cons x xs ih =>
    unfold removeFirst at h
    split at h
    · cases h; rfl
    · cases hr : removeFirst p xs with
      | none => simp [hr] at h
      | some zs =>
        simp [hr] at h
        subst h
        have := ih hr
        simp only [List.length_cons]
        omega

theorem removeNotice_length {q r : List TxFrame} (h : removeNotice q = some r) : r.length + 1 = q.length := by
  unfold removeNotice at h
  cases h1 : removeFirst (TxFrame.isNotice .runningTotal) q with
  | some a => simp [h1] at h; exact h ▸ removeFirst_length h1
  | none =>
    cases h2 : removeFirst (TxFrame.isNotice .faultRaised) q with
    | some a => simp [h1, h2] at h; exact h ▸ removeFirst_length h2
    | none => simp [h1, h2] at h; exact removeFirst_length h

theorem removeRefusal_length {q r : List TxFrame} (h : removeRefusal q = some r) : r.length + 1 = q.length := by
  unfold removeRefusal at h
  cases h1 : removeFirst (fun f : TxFrame => f.tag == .refusal .linkBusy) q with
  | some a => simp [h1] at h; exact h ▸ removeFirst_length h1
  | none => simp [h1] at h; exact removeFirst_length h

/-- A queue within its places stays within them (R191, R192). -/
theorem LinkFront.enqueue_length (room : Nat) (x : TxFrame) (f : LinkFront) :
    (f.enqueue room x).queue.length ≤ max room f.queue.length := by
  unfold LinkFront.enqueue
  split
  · simp; omega
  · split
    · rename_i q hq
      have := removeNotice_length hq
      simp; omega
    · split
      · simp
      · simp
      · split
        · rename_i q hq
          have := removeRefusal_length hq
          simp; omega
        · simp

/-- Starting the next frame takes at most one from the queue (R191). -/
theorem LinkFront.startNext_length (f : LinkFront) : f.startNext.queue.length ≤ f.queue.length := by
  unfold LinkFront.startNext
  split
  · rename_i h; simp [h]
  · simp

/-- A frame that finds room and an idle transmitter starts at once (R191). -/
theorem LinkFront.place_idle (x : TxFrame) (f : LinkFront) (hs : f.sending = none) (hq : f.queue = []) :
    f.place .running x = { f with sending := some x } := by
  simp [LinkFront.place, LinkFront.enqueue, LinkFront.startNext, hs, hq]

/-! ## Fault log -/

/-- The ring holds at most 32 entries (R200). -/
theorem joinRing_length (r : List RingEntry) (e : FaultEntry) : (joinRing r e).length ≤ max 32 r.length := by
  have h : (r ++ [(⟨e, false, false⟩ : RingEntry)]).length = r.length + 1 := by simp
  simp only [joinRing]
  split
  · simp only [List.length_drop, h]; omega
  · omega

/-- A raised fault: two notices, then the log (R202). -/
theorem Work.fault_st (c : FaultCode) (l : Option LineId) (d : BitVec 32) (w : Work) :
    (w.fault c l d).st = w.st.logFault ⟨w.st.stamp, c, l, d⟩ := rfl

theorem Work.fault_notes (c : FaultCode) (l : Option LineId) (d : BitVec 32) (w : Work) :
    (w.fault c l d).notes = w.notes ++ [⟨.cab, .faultRaised, layOut (faultItems ⟨w.st.stamp, c, l, d⟩)⟩,
      ⟨.metrology, .faultRaised, layOut (faultItems ⟨w.st.stamp, c, l, d⟩)⟩] := by
  simp [Work.fault, Work.mapSt, Work.notify]

/-! ## Changes of line state -/

/-- A change to the state a line is in is no change (R40). -/
theorem Work.changeState_same (l : LineId) (new : LineState) (nothing : Bool) (w : Work)
    (h : (w.st.line l).state = new) : w.changeState l new nothing = w := by
  simp [Work.changeState, h]

/-- A change of line state: the line enters the state and LINE_STATE goes to the cab and the reel (R40). -/
theorem Work.changeState_ne (l : LineId) (new : LineState) (nothing : Bool) (w : Work)
    (h : (w.st.line l).state ≠ new) :
    w.changeState l new nothing =
      ⟨w.st.setLine l ((w.st.line l).enter new),
       w.notes ++ [⟨.cab, .lineState, lineStateBody l ((w.st.line l).enter new) nothing⟩,
         ⟨.reel, .lineState, lineStateBody l ((w.st.line l).enter new) nothing⟩]⟩ := by
  simp [Work.changeState, h, Work.setLine, Work.mapSt, Work.notify]

/-! ## Requests and events -/

/-- A request that the front takes: the owner acts on the part with the request pending, the reply joins the queue, then
the notices (R189, R191). -/
theorem request_taken (link : Link) (k : RequestKind) (body : List Byte) (owner : Work → Reply × Work) (s : State)
    (hp : s.restart.phase = .running) (hn : (s.front link).request = none) (hm : permitted k link = true) :
    request link k body owner s =
      let s0 := s.setFront link { s.front link with rx := .hunt, request := some (k, body) }
      let r := owner ⟨s0, []⟩
      .next ((r.2.st.send link (r.1.frame (requestByte k) .reply)).sendNotices r.2.notes).drive := by
  have h1 : (s.toHunt link).restart.phase = .running := hp
  have h2 : ((s.toHunt link).front link).request = none := by simp [State.toHunt, hn]
  have h3 : (s.toHunt link).setFront link { (s.toHunt link).front link with request := some (k, body) }
      = s.setFront link { s.front link with rx := .hunt, request := some (k, body) } := by
    simp [State.toHunt, State.setFront, State.front]
  simp only [request, h1, h2, hm, h3, Work.finish]
  simp

/-- A command that is no request: its work, its notices, its outputs. -/
theorem event_next (f : Work → Work) (s : State) :
    event f s = .next (((f ⟨s, []⟩).st.sendNotices (f ⟨s, []⟩).notes).drive) := rfl

/-- READ_AUDIT finds every entry held under its own number, across the wrap too (R158, R161). -/
theorem Store.auditFind_held (st : Store) {i : Nat} (h : i < st.audit.length) (room : st.audit.length ≤ 64)
    (first : 1 ≤ st.auditOldest) (last : st.auditOldest ≤ max32) :
    st.auditFind (auditAfter st.auditOldest i) = .entry i := by
  have place : (auditAfter st.auditOldest i + max32 - st.auditOldest) % max32 = i := by
    simp only [auditAfter, max32] at *
    omega
  simp [Store.auditFind, place, h, Nat.ne_of_gt (Nat.zero_lt_of_lt h)]

end Sys2Proof.Machine
end

