-- ==== Sys2Proof/Laws/Words.lean ====
section
/-! SUPPORT. The words in which Safety.lean speaks of bodies and codes, each equal to what the model makes. -/

namespace Sys2Proof.Safety

open Sys2Proof.Machine

/-! ## Layout -/

theorem presenceByte_eight (x0 x1 x2 x3 x4 x5 x6 x7 : Bool) (bs : List Bool) (i : Nat) :
    presenceByte (x0 :: x1 :: x2 :: x3 :: x4 :: x5 :: x6 :: x7 :: bs) (i + 1) = presenceByte bs i := by
  simp only [presenceByte]
  have h : ∀ j, 8 * (i + 1) + j = (8 * i + j) + 1 + 1 + 1 + 1 + 1 + 1 + 1 + 1 := by intro j; omega
  simp only [h, List.getElem?_cons_succ]

/-- The presence bytes, built bit by bit (R199). -/
theorem packBits_presence : ∀ bs : List Bool, packBits bs 0 0 = presence bs
  | [] => rfl
  | [x0] => by cases x0 <;> rfl
  | [x0, x1] => by cases x0 <;> cases x1 <;> rfl
  | [x0, x1, x2] => by cases x0 <;> cases x1 <;> cases x2 <;> rfl
  | [x0, x1, x2, x3] => by cases x0 <;> cases x1 <;> cases x2 <;> cases x3 <;> rfl
  | [x0, x1, x2, x3, x4] => by cases x0 <;> cases x1 <;> cases x2 <;> cases x3 <;> cases x4 <;> rfl
  | [x0, x1, x2, x3, x4, x5] => by
    cases x0 <;> cases x1 <;> cases x2 <;> cases x3 <;> cases x4 <;> cases x5 <;> rfl
  | [x0, x1, x2, x3, x4, x5, x6] => by
    cases x0 <;> cases x1 <;> cases x2 <;> cases x3 <;> cases x4 <;> cases x5 <;> cases x6 <;> rfl
  | x0 :: x1 :: x2 :: x3 :: x4 :: x5 :: x6 :: x7 :: bs => by
    have hl : (x0 :: x1 :: x2 :: x3 :: x4 :: x5 :: x6 :: x7 :: bs).length + 7 = (bs.length + 7) + 8 := by
      simp only [List.length_cons]
    rw [presence, hl, Nat.add_div_right _ (by decide), List.range_succ_eq_map]
    simp only [List.map_cons, List.map_map, Function.comp_def, presenceByte_eight]
    simp [packBits, packBits_presence bs, presence, presenceByte, List.range_succ, Nat.add_assoc]

theorem presenceBits_eq (items : List Item) :
    presenceBits items = items.filterMap (fun x => match x with
      | .fixed _ => none
      | .opt _ v => some v.isSome) := by
  induction items with
  | nil => rfl
  | cons x xs ih => cases x <;> simp [presenceBits, ih]

/-- A body laid out (R199). -/
@[simp] theorem laid_eq (items : List Item) : laid items = layOut items := by
  rw [laid, layOut, packBits_presence, presenceBits_eq, List.flatMap_def]
  congr 2
  apply List.map_congr_left
  rintro (bs | ⟨w, _ | v⟩) _ <;> rfl

/-! ## Codes -/

@[simp] theorem yesByte_eq (b : Bool) : [yesByte b] = flagByte b := rfl
@[simp] theorem stateByte_eq : stateByte = lineStateCode := by funext x; cases x <;> rfl
@[simp] theorem modeByte_eq : modeByte = modeCode := by funext x; rcases x with _ | _ | _ <;> rfl
@[simp] theorem slotNumber_eq : slotNumber = slotByte := by funext x; cases x <;> rfl
@[simp] theorem pauseByte_eq : pauseByte = pauseCode := by funext x; rcases x with _ | _ | _ | _ | _ | _ <;> rfl
@[simp] theorem haltByte_eq : haltByte = haltCode := by funext x; rcases x with _ | _ | _ | _ | _ <;> rfl
@[simp] theorem endByte_eq : endByte = endCode := by funext x; rcases x with _ | _ | _ | _ | _ | _ | _ <;> rfl
@[simp] theorem bandByte_eq : bandByte = bandCode := by funext x; cases x <;> rfl
@[simp] theorem stageByte_eq : stageByte = stageCode := by funext x; cases x <;> rfl
@[simp] theorem kindByte_eq : kindByte = presetKindCode := by funext x; cases x <;> rfl
@[simp] theorem basisByte_eq : basisByte = basisCode := by funext x; cases x <;> rfl
@[simp] theorem faultByte_eq : faultByte = faultCodeByte := by funext x; cases x <;> rfl
@[simp] theorem flagBits_eq (f : Flags) : flagBits f = flagsByte f := by
  obtain ⟨a, b, c, d, e, g, h⟩ := f
  cases a <;> cases b <;> cases c <;> cases d <;> cases e <;> cases g <;> cases h <;> rfl

/-! ## Notices -/

theorem holds_iff (st : LineState) : (st ≠ .idle ∧ st ≠ .unverified) ↔ st.holds = true := by cases st <;> decide

/-- The LINE_STATE body (R198). -/
@[simp] theorem lineStateBytes_eq (l : LineId) (ln : Line) (nothing : Bool) :
    lineStateBytes l ln nothing = lineStateBody l ln nothing := by
  simp only [lineStateBytes, lineStateBody, holds_iff]
  cases h : ln.state <;> simp [LineState.holds, lineStateCause, modeCode, slotByte, Delivery.grossCl, nothingDeliveredCode]

@[simp] theorem entryFields_eq (e : FaultEntry) : entryFields e = faultItems e := by simp [entryFields, faultItems]

theorem lineNotices_eq (l : LineId) (ln : Line) (nothing : Bool) : lineNotices l ln nothing =
    [⟨.cab, .lineState, lineStateBody l ln nothing⟩, ⟨.reel, .lineState, lineStateBody l ln nothing⟩] := by
  simp [lineNotices]

theorem faultNotices_eq (e : FaultEntry) : faultNotices e =
    [⟨.cab, .faultRaised, layOut (faultItems e)⟩, ⟨.metrology, .faultRaised, layOut (faultItems e)⟩] := by
  simp [faultNotices]

@[simp] theorem runFields_eq (r : TestRun) : runFields r = testRunItems r := by simp [runFields, testRunItems]

@[simp] theorem resultBytes_eq (n : Nat) (r : TestRun) : resultBytes n r = testResultBody n r := by
  simp [resultBytes, testResultBody]

/-! ## Orders and the journal -/

theorem planByte_eq (p : Option PlanNo) : BitVec.ofNat 8 ((p.map Fin.val).getD 0xFF) = (match p with
    | some n => BitVec.ofNat 8 n.val
    | none => 0xFF) := by cases p <;> rfl

theorem beBytes_one (n : Nat) : beBytes 1 n = [BitVec.ofNat 8 n] := by simp [beBytes]

theorem loadBody_eq (o : OrderCopy) : loadBody o = orderBytes o := by
  simp only [loadBody, orderFields, orderBytes, kindByte_eq, beBytes_one, List.append_assoc, List.cons_append,
    List.nil_append]
  cases o.plan <;> rfl

theorem orderFields_length (o : OrderCopy) : (orderFields o).length = 24 := by
  simp [orderFields, beBytes, padTo]

@[simp] theorem orderData_eq (o : Order) : orderData o = reportedOrder o := by
  have h : (orderBytes o.copy).take 25 = orderFields o.copy ++ [BitVec.ofNat 8 (o.copy.taxRate.toNat / 256)] := by
    rw [← loadBody_eq, loadBody, List.take_append, orderFields_length]
    simp [List.take_of_length_le, orderFields_length, beBytes]
  simp [orderData, reportedOrder, h, beBytes_one, flagByte, yesByte]

@[simp] theorem summary_eq (j : Journal) : summary j = summaryItems j := by
  simp only [summary, summaryItems, JournalHeader.newest?]
  split <;> rfl

/-! ## Data -/

@[simp] theorem lineStatus_eq (ln : Line) : lineStatus ln = statusBytes ln := by
  simp [lineStatus, statusBytes, Delivery.grossCl]

/-- The data of READ_LINE. -/
@[simp] theorem lineData_eq (ln : Line) (lost : Nat) : lineData ln lost = layOut (readLineItems ln lost) := by
  have hf : ∀ w v, Item.opt w (if ln.delivery.mode = none then none else some v) = ln.delivery.opt w v := by
    intro w v
    rw [Delivery.opt, Delivery.filled]
    by_cases h : ln.delivery.mode = none
    · simp [h]
    · simp [h, Option.isSome_iff_ne_none.mpr h]
  simp only [lineData, readLineItems, laid_eq, hf, checkBytes, Delivery.runningBilled, Delivery.grossCl, capacity,
    stateByte_eq, modeByte_eq, slotNumber_eq, pauseByte_eq, haltByte_eq, endByte_eq, bandByte_eq, stageByte_eq, kindByte_eq,
    flagBits_eq, yesByte_eq]
  all_goals cases ln.delivery.latched.product.basis <;> rfl

@[simp] theorem slotData_eq (t : OrderTable) (n : SlotNo) : slotData t n = slotBytes t n := by
  simp only [slotData, slotBytes]
  cases h : t.slot n <;> simp [slotState]

theorem slotState_waiting (x : Slot) : decide (slotState x = 0x01) = x.isWaiting := by cases x <;> rfl
theorem slotState_bound (x : Slot) : decide (slotState x = 0x02) = x.isBound := by cases x <;> rfl

/-- The data of READ_ORDERS. -/
@[simp] theorem ordersData_eq (t : OrderTable) (n : SlotNo) : ordersData t n = readOrdersData t n := by
  have h1 : (List.finRange 24).filter (fun m => decide (n ≤ m ∧ t.slot m ≠ .free)) = t.listed n.val := by
    apply List.filter_congr
    intro m _
    cases h : t.slot m <;> simp [Slot.isFree]
  have h2 : slotData t = slotBytes t := funext (slotData_eq t)
  unfold ordersData readOrdersData
  simp only [slotState_waiting, slotState_bound]
  rw [h1, List.length_take, List.flatMap_def, slotNumber_eq, List.head?_drop, h2, List.countP_eq_length_filter,
    List.countP_eq_length_filter, allSlots]

/-- The data of READ_PLAN. -/
@[simp] theorem planData_eq (n : PlanNo) (tiers : List Tier) : planData n tiers = planBytes n.val tiers := by
  have h : tierBytes = fun t : Tier => layOut [.opt 3 (t.bound.map (fun b => beBytes 3 b.toNat)), .fixed (beBytes 3 t.price.toNat),
      .fixed (beBytes 3 t.charge.toNat)] := rfl
  simp [planData, planBytes, List.flatMap_def, h]

/-- The first entry after a position that is not TRANSFERRED (R134). -/
theorem next_open (h : JournalHeader) (i : Nat) :
    (List.range h.count).find? (fun j => decide (i < j) && decide (h.transferred ≤ j)) = h.openFrom (i + 1) := by
  simp only [JournalHeader.openFrom]
  split
  · rename_i hlt
    rw [List.find?_range_eq_some]
    refine ⟨by simp only [Bool.and_eq_true, decide_eq_true_eq]; omega, by simpa using hlt, ?_⟩
    intro j hj
    simp only [Bool.not_eq_true', Bool.and_eq_false_iff, decide_eq_false_iff_not]
    omega
  · rename_i hlt
    rw [List.find?_range_eq_none]
    intro j hj
    simp only [Bool.not_eq_true', Bool.and_eq_false_iff, decide_eq_false_iff_not]
    omega

/-- The data of READ_TICKET. -/
@[simp] theorem ticketData_eq (s : State) (i : Nat) : ticketData s i = readTicketData s i := by
  simp only [ticketData, readTicketData, next_open, laid_eq, summary_eq, State.entryRecord, JournalHeader.place,
    Journal.entryState, ticketGood, checkBytes, beq_iff_eq]
  congr 6
  split
  · rfl
  · split <;> rename_i h <;> simp only [h, if_true] <;> rfl

/-- The data of READ_FAULT_LOG. -/
@[simp] theorem faultLogData_eq (f : FaultLog) (n : Nat) : faultLogData f n = readFaultLogData f n := by
  have h : (fun x : RingEntry => laid (entryFields x.entry ++ [.fixed [if x.stored then 0x00 else 0x01]])) = ringEntryBytes := by
    funext x
    simp [ringEntryBytes]
  unfold faultLogData readFaultLogData
  dsimp only
  rw [h, List.length_take, List.length_drop, List.flatMap_def]
  simp [List.flatMap_def]

theorem auditNumber_eq (st : Store) (i : Nat) : auditNumber st i = auditAfter st.auditOldest i := rfl

@[simp] theorem auditFields_eq (e : AuditEntry) : auditFields e = auditItems e := by
  rcases e with ⟨c, t, o, n⟩ | r
  · cases n <;> rfl
  · simp [auditFields, auditItems]

/-- The data of READ_AUDIT. -/
theorem auditData_eq (st : Store) (i : Nat) (e : AuditEntry) (h : st.audit[i]? = some e) :
    auditData st i e = readAuditData st i := by
  obtain ⟨hi, rfl⟩ := List.getElem?_eq_some_iff.mp h
  simp only [auditData, readAuditData, List.drop_eq_getElem_cons hi, laid_eq, auditFields_eq, auditNumber_eq]
  by_cases hl : i + 1 < st.audit.length
  · have : st.audit.drop (i + 1) ≠ [] := by simp; omega
    simp [hl, List.isEmpty_iff, this]
  · have : st.audit.drop (i + 1) = [] := by simp; omega
    simp [hl, this]

/-- The data of READ_RECORD. -/
@[simp] theorem recordData_eq (s : State) (r : RecordId) : recordData s r = readRecordData s r := by
  have hl : ∀ l, decide ((s.line l).state ≠ .idle ∧ (s.line l).state ≠ .unverified ∧
      (r = .line l ∨ r = .meter l (s.line l).delivery.product ∨ r = .product (s.line l).delivery.product))
      = (s.line l).latches l r := by
    intro l
    simp only [← and_assoc, holds_iff, Line.latches, latchedIds]
    simp
  simp only [recordData, readRecordData, hl, laid_eq, yesByte_eq, checkBytes]
  rcases hp : s.cal.pendingWrite with _ | ⟨i, w⟩
  · cases r <;> simp [contentLength] <;> rfl
  · cases w <;> cases r <;> simp [contentLength, statusCode] <;> rfl

/-- The data of READ_CHECKSUM. -/
@[simp] theorem checksumData_eq (s : State) : checksumData s = readChecksumData s := by
  have hr : ((List.range 14).flatMap (fun n => ((recordOf? n).map (fun r => beBytes 4 (s.cal.refs.get r).toNat)).getD [])) = (allRecords.map (fun r => checkBytes (s.cal.refs.get r))).flatten := by
    simp [List.range_succ, recordOf?, allRecords, checkBytes]
  rw [checksumData, hr]
  simp only [readChecksumData, laid_eq, checkBytes]
  rcases s.cal.pendingWrite with _ | ⟨r, w⟩
  · rfl
  · cases w <;> rfl

/-! ## The codes of frames -/

theorem requestRow_eq (k : RequestKind) :
    requestByte k = (requestRow k).1 ∧ ∀ link, permitted k link = decide (link ∈ (requestRow k).2) := by
  refine ⟨by cases k <;> rfl, fun link => ?_⟩
  cases k <;> cases link <;> rfl

/-- The records that disagree (R164). -/
@[simp] theorem disagreeing_eq (s : State) (rs : List RecordId) : disagreeing s rs = s.mismatched rs := by
  simp only [disagreeing, State.mismatched]
  apply List.filter_congr
  intro r _
  by_cases h : recordCheck (s.cal.shadows.get r).1 (s.cal.shadows.get r).2 = s.cal.refs.get r <;>
    simp [RecordSet.check, h]

end Sys2Proof.Safety
end

