-- ==== Sys2Proof/Laws/Requests.lean ====
section
/-! SUPPORT. A request that is taken and an event, each as one equation: the part its owner leaves, the links told, the
outputs driven. -/

namespace Sys2Proof.Safety

open Sys2Proof.Machine

/-- Notices reach the links alone. -/
theorem sendNotices_eta (s : State) (ns : List Notice) : s.sendNotices ns = { s with links := (s.sendNotices ns).links } := by
  induction ns generalizing s with
  | nil => rfl
  | cons n ns ih => rw [State.sendNotices_cons, ih]; rfl

/-- What the links hold after notices depends on the links and the phase alone. -/
theorem sendNotices_links_congr {s t : State} (hl : s.links = t.links) (hp : s.restart.phase = t.restart.phase)
    (ns : List Notice) : (s.sendNotices ns).links = (t.sendNotices ns).links := by
  induction ns generalizing s t with
  | nil => exact hl
  | cons n ns ih =>
    rw [State.sendNotices_cons, State.sendNotices_cons]
    apply ih
    · simp [State.send, State.front, hl, hp]
    · exact hp

/-- A request that the front takes, when its owner leaves the links and the phase alone. -/
theorem request_told {s : State} {link : Link} {k : RequestKind} {body : List Byte} {owner : Work → Reply × Work}
    (h : Takes s link k) {r : Reply} {t : State} {ns : List Notice}
    (ho : owner ⟨asked s link k body, []⟩ = (r, ⟨t, ns⟩)) (hl : t.links = (asked s link k body).links)
    (hp : t.restart.phase = s.restart.phase) :
    request link k body owner s = .next (State.drive { t with links := told s link k body r ns }) := by
  rw [request_taken link k body owner s h.running h.free h.marked]
  change Host.Outcome.next (((owner ⟨asked s link k body, []⟩).2.st.send link
    ((owner ⟨asked s link k body, []⟩).1.frame (requestByte k) .reply)).sendNotices
      (owner ⟨asked s link k body, []⟩).2.notes).drive = _
  rw [ho]
  dsimp only
  rw [sendNotices_eta]
  congr 2
  have : ((t.send link (r.frame (requestByte k) .reply)).sendNotices ns).links
      = ((replied s link k body r).sendNotices ns).links := by
    apply sendNotices_links_congr
    · simp [State.send, State.front, hl, hp, replied, h.running, asked]
    · exact hp
  rw [this]
  rfl

/-- A request that the front takes and whose owner changes nothing. -/
theorem request_answered {s : State} {link : Link} {k : RequestKind} {body : List Byte} {owner : Work → Reply × Work}
    (h : Takes s link k) {r : Reply} (ho : owner ⟨asked s link k body, []⟩ = (r, ⟨asked s link k body, []⟩)) :
    request link k body owner s = .next (answered s link k body r) :=
  (request_told h ho rfl rfl).trans (by simp [told, answered, replied, asked, State.setFront])

/-- An event, when its work leaves the links and the phase alone. -/
theorem event_told {s t : State} {f : Work → Work} {ns : List Notice} (hf : f ⟨s, []⟩ = ⟨t, ns⟩) (hl : t.links = s.links)
    (hp : t.restart.phase = s.restart.phase) :
    event f s = .next (State.drive { t with links := (s.sendNotices ns).links }) := by
  rw [event_next, hf, sendNotices_eta, sendNotices_links_congr hl hp]

end Sys2Proof.Safety
end

