-- ==== Sys2Proof/Laws/Lines.lean ====
section
/-! SUPPORT. What the shared operations of the delivery cycle controllers do to a line, each in one equation. -/

namespace Sys2Proof.Safety

open Sys2Proof.Machine

/-! ## Entering a state -/

theorem enter_paused (c : PauseCause) (ln : Line) :
    ({ ln with delivery := { ln.delivery with pauseCause := some c } } : Line).enter .paused = paused c ln := by
  simp [Line.enter, paused, closedValve, LineState.isUnticketed]

theorem enter_halted (c : HaltCause) (ln : Line) :
    ({ ln with delivery := { ln.delivery with haltCause := some c } } : Line).enter .halted = halted c ln := by
  simp [Line.enter, halted, closedValve, LineState.isUnticketed]

theorem enter_settled (c : EndCause) (ln : Line) :
    ({ ln with delivery := { ln.delivery.discardTopUp with endCause := some c } } : Line).enter .settling = settled c ln := by
  simp [Line.enter, settled, Delivery.discardTopUp, LineState.isUnticketed]

theorem enter_flowing (ln : Line) :
    ({ ln with delivery := ln.delivery.startWindow } : Line).enter .flowing = flowing ln := by
  simp [Line.enter, flowing, Delivery.startWindow, LineState.isUnticketed]

theorem enter_armed (d : Delivery) (ln : Line) (h : d.preset.stage = .closed) : (ln.begin d).enter .armed = armed d ln := by
  simp [Line.enter, Line.begin, armed, LineState.isUnticketed, ← h]

theorem enter_freed (st : LineState) (ln : Line) (hst : st = .idle ∨ st = .unverified) : ln.enter st = freed st ln := by
  have h1 : LineState.isUnticketed .idle = true := rfl
  have h2 : LineState.isUnticketed .unverified = true := rfl
  rcases hst with rfl | rfl <;> cases h : ln.state.isUnticketed <;> simp [Line.enter, freed, closedValve, h1, h2, h]

/-! ## Work on one line -/

theorem mapDelivery_eq (l : LineId) (f : Delivery → Delivery) (w : Work) :
    w.mapDelivery l f = ⟨w.st.setLine l { w.st.line l with delivery := f (w.st.line l).delivery }, w.notes⟩ := rfl

theorem setLine_setLine (s : State) (l : LineId) (x y : Line) : (s.setLine l x).setLine l y = s.setLine l y := by
  simp [State.setLine]

/-- A change of line state after a change of the delivery record. -/
theorem map_change (l : LineId) (f : Delivery → Delivery) (new : LineState) (nothing : Bool) (w : Work)
    (h : (w.st.line l).state ≠ new) :
    (w.mapDelivery l f).changeState l new nothing =
      ⟨w.st.setLine l (({ w.st.line l with delivery := f (w.st.line l).delivery } : Line).enter new),
       w.notes ++ lineNotices l (({ w.st.line l with delivery := f (w.st.line l).delivery } : Line).enter new) nothing⟩ := by
  rw [mapDelivery_eq, Work.changeState_ne]
  · simp [setLine_setLine, lineNotices_eq]
  · simpa using h

theorem pauseLine_eq (l : LineId) (c : PauseCause) (w : Work) (h : (w.st.line l).state ≠ .paused) :
    w.pauseLine l c = ⟨w.st.setLine l (paused c (w.st.line l)), w.notes ++ lineNotices l (paused c (w.st.line l)) false⟩ := by
  rw [Work.pauseLine, map_change _ _ _ _ _ h, enter_paused]

theorem haltLine_eq (l : LineId) (c : HaltCause) (w : Work) (h : (w.st.line l).state ≠ .halted) :
    w.haltLine l c = ⟨w.st.setLine l (halted c (w.st.line l)), w.notes ++ lineNotices l (halted c (w.st.line l)) false⟩ := by
  rw [Work.haltLine, map_change _ _ _ _ _ h, enter_halted]

theorem settleLine_eq (l : LineId) (c : EndCause) (w : Work) (h : (w.st.line l).state ≠ .settling) :
    w.settleLine l c = ⟨w.st.setLine l (settled c (w.st.line l)), w.notes ++ lineNotices l (settled c (w.st.line l)) false⟩ := by
  rw [Work.settleLine, map_change _ _ _ _ _ h, enter_settled]

theorem stopCause_eq (d : Delivery) : d.stopCause = targetCause d := by
  unfold Delivery.stopCause targetCause
  split <;> simp_all

theorem slowFor_le (d : Delivery) (top : Nat) : d.slowFor top ≤ d.stopFor top := Nat.sub_le _ _

/-- A load in the words of R84. -/
theorem load_eq (d : Delivery) : d.load = loaded d := by
  have h := slowFor_le d (d.preset.loadedTop + d.preset.stagedTop)
  simp only [Delivery.load, loaded, stageFor]
  congr 2
  repeat' split
  all_goals first | rfl | omega

/-- The load of a START or RESUME: FLOWING below the new stop target, SETTLING otherwise (R51, R53). -/
theorem loadAndGo_eq (l : LineId) (w : Work) (h1 : (w.st.line l).state ≠ .settling) (h2 : (w.st.line l).state ≠ .flowing) :
    w.loadAndGo l =
      let ln := { w.st.line l with delivery := loaded (w.st.line l).delivery }
      let ln' := if ln.delivery.preset.stop ≤ ln.delivery.counts.g then settled (targetCause ln.delivery) ln else flowing ln
      ⟨w.st.setLine l ln', w.notes ++ lineNotices l ln' false⟩ := by
  simp only [Work.loadAndGo, mapDelivery_eq l Delivery.load, load_eq, Delivery.atStop, State.setLine_line, stopCause_eq,
    decide_eq_true_eq]
  split
  · rw [settleLine_eq _ _ _ (by simpa using h1)]
    simp [setLine_setLine]
  · rw [map_change _ _ _ _ _ (by simpa using h2)]
    simp [setLine_setLine, ← enter_flowing]

/-! ## Faults raised beside a change of lines, inputs or holds -/

theorem hand_lines_comm (s : State) (u : WriteUnit) (x : PerLine Line) :
    ({ s with lines := x } : State).hand u = { s.hand u with lines := x } := by
  unfold State.hand
  repeat' split
  all_goals first | rfl | simp_all

theorem handFaultLog_lines_comm (s : State) (x : PerLine Line) :
    ({ s with lines := x } : State).handFaultLog = { s.handFaultLog with lines := x } :=
  hand_lines_comm { s with faultLog := { s.faultLog with outstanding := some .queued } } .faultLog x

theorem logFault_lines_comm (s : State) (e : FaultEntry) (x : PerLine Line) :
    ({ s with lines := x } : State).logFault e = { s.logFault e with lines := x } := by
  unfold State.logFault
  dsimp only
  split
  · exact handFaultLog_lines_comm { s with faultLog := { s.faultLog with ring := joinRing s.faultLog.ring e } } x
  · split <;> rfl

theorem hand_inputs_comm (s : State) (u : WriteUnit) (i : Inputs) (h : Bool) :
    ({ s with inputs := i, estopHold := h } : State).hand u = { s.hand u with inputs := i, estopHold := h } := by
  unfold State.hand
  repeat' split
  all_goals first | rfl | simp_all

theorem logFault_inputs_comm (s : State) (e : FaultEntry) (i : Inputs) (h : Bool) :
    ({ s with inputs := i, estopHold := h } : State).logFault e = { s.logFault e with inputs := i, estopHold := h } := by
  unfold State.logFault
  dsimp only
  split
  · exact hand_inputs_comm { s with faultLog :=
      { s.faultLog with ring := joinRing s.faultLog.ring e, outstanding := some .queued } } .faultLog i h
  · split <;> rfl

/-- A fault raised from a part whose lines have changed. -/
theorem fault_setLine (c : FaultCode) (m : Option LineId) (d : BitVec 32) (s : State) (l : LineId) (ln : Line)
    (ns : List Notice) :
    Work.fault c m d ⟨s.setLine l ln, ns⟩
      = ⟨(s.logFault ⟨s.stamp, c, m, d⟩).setLine l ln, ns ++ faultNotices ⟨s.stamp, c, m, d⟩⟩ := by
  have h : (s.setLine l ln).logFault ⟨s.stamp, c, m, d⟩ = (s.logFault ⟨s.stamp, c, m, d⟩).setLine l ln := by
    rw [State.setLine, logFault_lines_comm, State.setLine, State.logFault_lines]
  have hf : Work.fault c m d ⟨s.setLine l ln, ns⟩
      = ⟨(s.setLine l ln).logFault ⟨s.stamp, c, m, d⟩, ns ++ faultNotices ⟨s.stamp, c, m, d⟩⟩ := by
    simp [Work.fault, Work.notify, Work.mapSt, faultNotices_eq, State.stamp]
  rw [hf, h]

/-- A fault raised from a part as it stands. -/
theorem fault_eq (c : FaultCode) (m : Option LineId) (d : BitVec 32) (s : State) (ns : List Notice) :
    Work.fault c m d ⟨s, ns⟩ = ⟨s.logFault ⟨s.stamp, c, m, d⟩, ns ++ faultNotices ⟨s.stamp, c, m, d⟩⟩ := by
  simp [Work.fault, Work.notify, Work.mapSt, faultNotices_eq]

/-! ## Pulses and samples -/

theorem increment_eq (f : Factor) (p : Nat) : increment f p = pulseIncrement f p := by
  unfold increment pulseIncrement
  split <;> simp_all

theorem bump_eq (limit n : Nat) : bump limit n = min limit (n + 1) := by
  unfold bump
  split <;> omega

/-- A pulse counted into an open delivery (R5). -/
theorem grossPulse_eq (l : LineId) (w : Work) : w.grossPulse l = ⟨w.st.setLine l (counted (w.st.line l)), w.notes⟩ := by
  have hf : ∀ d : Delivery, factorOf d.latched.meter d.counts.band = pulseFactor d := fun d => by
    unfold factorOf pulseFactor; cases d.counts.band <;> rfl
  simp only [Work.grossPulse, Work.setLine, Work.mapSt, counted, Delivery.countPulse, increment_eq, hf]
  rfl

/-- The delivery's side of a probe sample (R27 to R29, R33). -/
theorem sample_eq (d : Delivery) (raw : BitVec 16) : d.sample (corrected d raw) = weighted d raw := by
  have hv : sampleValid (corrected d raw) = decide (-4000 ≤ corrected d raw ∧ corrected d raw ≤ 6000) := by
    simp [sampleValid]
  simp only [Delivery.sample, hv, decide_eq_true_eq, weighted]
  by_cases h : -4000 ≤ corrected d raw ∧ corrected d raw ≤ 6000
  · simp only [if_pos h, Delivery.weight, Delivery.recompute, Delivery.average, Delivery.vcfAt, grossWrap]
    by_cases hz : (d.counts.gs + d.counts.gp) % 100000000000000000 = 0 <;> simp [hz]
  · simp only [if_neg h, Delivery.weight, Delivery.recompute, Delivery.average, Delivery.vcfAt, grossWrap]
    by_cases hz : (d.counts.gs + d.counts.gp) % 100000000000000000 = 0 <;> cases hl : d.corr.lastValid <;> simp [hz]

/-- A probe sample: the line sampled, and a PROBE_FAULT entry at the first invalid one (R26 to R29). -/
theorem probeSample_eq (l : LineId) (raw : BitVec 16) (w : Work) :
    (firstInvalid (w.st.line l).delivery raw →
      w.probeSample l raw =
        Work.fault .probeFault (some l) (BitVec.ofInt 32 (corrected (w.st.line l).delivery raw))
          ⟨w.st.setLine l (sampled (w.st.line l) raw), w.notes⟩) ∧
    (¬ firstInvalid (w.st.line l).delivery raw →
      w.probeSample l raw = ⟨w.st.setLine l (sampled (w.st.line l) raw), w.notes⟩) := by
  have hv : sampleValid (corrected (w.st.line l).delivery raw) = decide (validSample (corrected (w.st.line l).delivery raw)) := by
    simp [sampleValid, validSample]
  have hs : w.probeSample l raw =
      if !sampleValid (corrected (w.st.line l).delivery raw) && !(w.st.line l).delivery.flags.probeFault then
        Work.fault .probeFault (some l) (BitVec.ofInt 32 (corrected (w.st.line l).delivery raw))
          ⟨w.st.setLine l (sampled (w.st.line l) raw), w.notes⟩
      else ⟨w.st.setLine l (sampled (w.st.line l) raw), w.notes⟩ := by
    have hx : sampled (w.st.line l) raw = { w.st.line l with
        temp := if sampleValid (corrected (w.st.line l).delivery raw)
          then ⟨some raw.toInt, some (corrected (w.st.line l).delivery raw), false, some (corrected (w.st.line l).delivery raw)⟩
          else ⟨some raw.toInt, some (corrected (w.st.line l).delivery raw), true, (w.st.line l).temp.lastValid⟩
        delivery := (w.st.line l).delivery.sample (corrected (w.st.line l).delivery raw) } := by
      rw [sample_eq]; simp [sampled, hv, validSample]
    rw [hx]
    rfl
  rw [hs, hv]
  constructor
  · rintro ⟨h1, h2⟩
    rw [if_pos]
    simp [h1, h2]
  · intro h
    rw [if_neg]
    intro hc
    apply h
    simp only [Bool.and_eq_true, Bool.not_eq_true', decide_eq_false_iff_not] at hc
    exact hc

end Sys2Proof.Safety
end

