-- ==== Sys2Proof/Laws/Tickets.lean ====
section
/-! SUPPORT. The ticket record as the list of its parts (R197), and the part that stands at an offset. -/

namespace Sys2Proof.Machine

/-- The part of a concatenation that stands after the first `k` parts. -/
theorem flatten_part {α : Type} : ∀ (k : Nat) (ps : List (List α)) (widths : List Nat) (off n : Nat),
    ps.map List.length = widths → (widths.take k).sum = off → widths[k]? = some n →
    (ps.flatten.drop off).take n = ps.getD k []
  | 0, [], widths, off, n, hw, _, hn => by subst hw; simp at hn
  | 0, p :: ps, widths, off, n, hw, ho, hn => by
    subst hw
    simp only [List.map_cons, List.getElem?_cons_zero, Option.some.injEq, List.take_zero, List.sum_nil] at hn ho
    subst hn ho
    simp
  | k + 1, [], widths, off, n, hw, _, hn => by subst hw; simp at hn
  | k + 1, p :: ps, widths, off, n, hw, ho, hn => by
    subst hw
    simp only [List.map_cons, List.take_succ_cons, List.sum_cons, List.getElem?_cons_succ] at ho hn
    subst ho
    rw [List.flatten_cons, List.drop_append, List.drop_eq_nil_of_le (by omega), Nat.add_sub_cancel_left, List.nil_append]
    exact flatten_part k ps _ _ n rfl rfl hn

@[simp] theorem beBytes_length (n v : Nat) : (beBytes n v).length = n := by
  induction n generalizing v <;> simp [beBytes, *]

@[simp] theorem padTo_length (n : Nat) (bs : List Byte) : (padTo n bs).length = n := by simp [padTo]

@[simp] theorem orderBytes_length (o : OrderCopy) : (orderBytes o).length = 26 := by simp [orderBytes]

theorem priceBytes_length : ∀ p : Option PricePart, (priceBytes p).length = 22
  | none => rfl
  | some p => by simp only [priceBytes, List.length_append, beBytes_length]

/-- The parts of a ticket record up to its check code, in the order of R197. -/
def ticketParts (l : LineId) (d : Delivery) (f : Final) (price : Option PricePart) : List (List Byte) :=
  [beBytes 4 (d.ticketNumber.getD 0), beBytes 1 (lineNo l), [ticketPresence d f price],
   orderBytes (d.latched.order.getD blankOrder), padTo 12 d.latched.settings.name,
   beBytes 4 d.preset.loadedTop, beBytes 4 (d.armTime.getD 0), beBytes 4 (d.endTime.getD 0),
   beBytes 7 d.openTot, beBytes 7 d.closeTot, beBytes 8 d.counts.g, beBytes 6 f.gross, beBytes 6 f.net,
   signedBytes 2 (f.average.getD 0), beBytes 4 f.vcf, [basisCode d.latched.product.basis], beBytes 4 (f.billed.getD 0),
   [endCode d.endCause], [haltCode d.haltCause], [flagsByte d.flags],
   beBytes 4 d.identity.counter, checkBytes d.identity.checksum, priceBytes price]

/-- The widths of those parts. -/
def ticketWidths : List Nat := [4, 1, 1, 26, 12, 4, 4, 4, 7, 7, 8, 6, 6, 2, 4, 1, 4, 1, 1, 1, 4, 4, 22]

theorem ticketParts_widths (l : LineId) (d : Delivery) (f : Final) (price : Option PricePart) :
    (ticketParts l d f price).map List.length = ticketWidths := by
  have cons : ∀ (p : List Byte) (n : Nat) (ps : List (List Byte)) (ns : List Nat), p.length = n → ps.map List.length = ns →
      (p :: ps).map List.length = n :: ns := by
    intro p n ps ns h hs
    rw [List.map_cons, h, hs]
  unfold ticketParts ticketWidths
  iterate 2 refine cons _ _ _ _ (beBytes_length _ _) ?_
  refine cons _ _ _ _ rfl ?_
  refine cons _ _ _ _ (orderBytes_length _) ?_
  refine cons _ _ _ _ (padTo_length _ _) ?_
  iterate 10 refine cons _ _ _ _ (beBytes_length _ _) ?_
  refine cons _ _ _ _ rfl ?_
  refine cons _ _ _ _ (beBytes_length _ _) ?_
  iterate 3 refine cons _ _ _ _ rfl ?_
  iterate 2 refine cons _ _ _ _ (beBytes_length _ _) ?_
  exact cons _ _ _ _ (priceBytes_length _) rfl

theorem ticketBytes_parts (l : LineId) (d : Delivery) (f : Final) (price : Option PricePart) :
    ticketBytes l d f price = (ticketParts l d f price).flatten := by
  unfold ticketBytes ticketParts
  simp only [List.flatten_cons, List.flatten_nil, List.append_assoc, List.append_nil]

theorem ticketBytes_length (l : LineId) (d : Delivery) (f : Final) (price : Option PricePart) :
    (ticketBytes l d f price).length = 134 := by
  rw [ticketBytes_parts, List.length_flatten, ticketParts_widths]
  rfl

/-- The part at an offset of a sealed ticket record. -/
theorem sealTicket_part (l : LineId) (d : Delivery) (f : Final) (price : Option PricePart) (k off n : Nat)
    (ho : (ticketWidths.take k).sum = off) (hn : ticketWidths[k]? = some n) (h : off + n ≤ 134) :
    ((sealTicket (ticketBytes l d f price)).drop off).take n = (ticketParts l d f price).getD k [] := by
  have hl := ticketBytes_length l d f price
  rw [sealTicket, List.drop_append_of_le_length (by omega), List.take_append_of_le_length (by rw [List.length_drop]; omega),
    ticketBytes_parts]
  exact flatten_part k _ _ off n (ticketParts_widths l d f price) ho hn

end Sys2Proof.Machine
end

