-- ==== Sys2Proof/Tests/Slice0.lean ====
section
/-! SUPPORT. The model's own tests: the spec's worked examples on small states, ill-formed commands refused by WellFormed,
and for each statement of Certificates/Slice0/Obligations.lean with hypotheses a state and operands that meet them. -/

namespace Sys2Proof.Tests

open Sys2Proof.Machine Sys2Proof.Safety

-- One theorem at a time: many kernel evaluations side by side take more threads than the check's memory limit allows.
set_option Elab.async false

/-! ## Small states -/

/-- The answer is a next state with a property. -/
def gives (o : Host.Outcome State Fault Refusal) (p : State → Bool) : Bool :=
  match o with
  | .next s => p s
  | .fault _ | .refused _ => false

theorem next_of_gives {o : Host.Outcome State Fault Refusal} (h : gives o (fun _ => true) = true) : ∃ t, o = .next t := by
  cases o with
  | next t => exact ⟨t, rfl⟩
  | fault f => cases h
  | refused r => cases h

/-- LINE A as in section 1.13. -/
def lineRec : LineRec := ⟨60, 400, 2, 20, 0⟩

/-- METER_FACTOR (A, 0) as in section 1.13. -/
def meterRec : MeterRec := ⟨⟨998, 12⟩, ⟨1002, 5⟩, ⟨1005, 3⟩⟩

/-- PRODUCT 0 as in section 2.7. -/
def productRec : ProductRec := ⟨840, BitVec.ofInt 16 (-500), .net⟩

/-- A record calibrated: a VALID shadow with its reference check. -/
def calibrate (s : State) (r : CalRecord) : State :=
  { s with cal := { s.cal with
      shadows := s.cal.shadows.put true r
      refs := s.cal.refs.put (recordCheck true r) r.id } }

/-- An order of 80,000 cL of product 0 on plan 1 at 500 basis points (sections 2.7 and 6.8). -/
def order : OrderCopy := ⟨7, [65], 4854277, .p0, .volume, 80000, some 1, 500⟩

/-- Plan 1 of section 6.8. -/
def tiers : List Tier := [⟨some 500, 12890, 1500⟩, ⟨some 1000, 12490, 0⟩, ⟨some 2500, 12190, 0⟩, ⟨none, 11990, 0⟩]

/-- Line A calibrated and IDLE, its totalizer as in section 1.13, the order in slot 0 and plan 1 written. -/
def ready : State :=
  let s := calibrate (calibrate (calibrate State.reset (.line .a lineRec)) (.meter .a .p0 meterRec)) (.product .p0 productRec)
  { s with
    lines := ⟨freshLine .idle 4210553017 0, freshLine .unverified 0 0⟩
    orders := ⟨s.orders.slots.set 0 (.waiting ⟨order, none, 0⟩), 1⟩
    plans := s.plans.set 1 tiers }

/-- The copies that line A latches for the order. -/
def latched : Latched := copies ready .a .p0 (some order) (some ⟨1, tiers⟩)

/-- The record of the SALE armed on line A. -/
def sale : Delivery := armedDelivery .sale (some 0) .p0 latched ⟨0, 0⟩ none 4210553017 (some 80000)

/-- The record of a TEST armed on line A with a gross preset of 2,000 cL. -/
def test : Delivery := armedDelivery .test none .p0 (copies ready .a .p0 none none) ⟨0, 0⟩ none 4210553017 (some 2000)

/-- A record with G, all of it weighted, and the totalizer that goes with it left to `onA`. -/
def withG (d : Delivery) (g : Nat) : Delivery := { d with counts := { d.counts with g := g, gs := g } }

/-- The part with line A in a state with a record: slot 0 BOUND and a place reserved for it, the timers of the state running. -/
def onA (st : LineState) (d : Delivery) : State :=
  { ready with
    lines := ⟨{ freshLine st (4210553017 + d.counts.g) 0 with
        delivery := d
        stayOpen := st.isUnticketed
        windowRunning := st == .flowing
        quietRunning := st == .settling
        capRunning := st == .settling }, ready.lines.b⟩
    orders := { ready.orders with slots := ready.orders.slots.set 0 (.bound .a ⟨order, none, 0⟩) }
    journal := { ready.journal with reservations := 1 } }

/-- The part with one input changed. -/
def withInputs (s : State) (f : Inputs → Inputs) : State := { s with inputs := f s.inputs }

/-- The part in a phase, with the engine in a state. -/
def inPhase (s : State) (p : Phase) (e : EngineState) : State :=
  { s with restart := { s.restart with phase := p }, engine := { s.engine with state := e } }

/-- The part with a link front changed. -/
def withReel (s : State) (f : LinkFront → LinkFront) : State := s.setFront .reel (f (s.front .reel))

/-- The part with a unit in flight. -/
def flying (s : State) (u : WriteUnit) : State :=
  { s with engine := ⟨.writing, some ⟨u, s.journal.header, s.journal.marks, []⟩, []⟩ }

/-- The part with a journal header. -/
def withHeader (s : State) (h : JournalHeader) : State := { s with journal := { s.journal with header := h } }

/-- A front takes a request, as one check. -/
def takes (s : State) (link : Link) (k : RequestKind) : Bool :=
  decide (s.restart.phase = .running) && (s.front link).request.isNone && permitted k link

theorem takes_of {s : State} {link : Link} {k : RequestKind} (h : takes s link k = true) : Takes s link k := by
  simp only [takes, Bool.and_eq_true, decide_eq_true_eq, Option.isNone_iff_eq_none] at h
  exact ⟨h.1.1, h.1.2, h.2⟩

theorem pairs_of {s : State} {l : LineId} {p : Product} (h1 : (s.cal.shadows.product.get p).valid = true)
    (h2 : ((s.cal.shadows.meter.get l).get p).valid = true) (h3 : s.cal.pendingWrite = none) : Pairs s l p :=
  ⟨h1, h2, fun r w h => by rw [h3] at h; cases h⟩

/-- A live record agrees with its reference check, as one check. -/
def agreed (s : State) (r : RecordId) : Bool := recordCheck (s.cal.shadows.get r).1 (s.cal.shadows.get r).2 == s.cal.refs.get r

theorem swept_of {s : State} {l : LineId} {p : Product}
    (h : (agreed s (.line l) && agreed s (.meter l p) && agreed s (.product p)) = true) : Swept s l p := by
  simp only [agreed, Bool.and_eq_true, beq_iff_eq] at h
  exact ⟨h.1.1, h.1.2, h.2⟩

theorem not_swept_of {s : State} {l : LineId} {p : Product} (h : agreed s (.line l) = false) : ¬ Swept s l p := by
  intro x
  have y := x.1
  simp only [agreed, beq_eq_false_iff_ne] at h
  exact h y

/-! ## The spec's worked examples -/

/-- Section 10.8: the PAUSE frame for line A on the wire. -/
theorem test_frame_bytes : frameBytes 0x13 [0x00] = [0xC3, 0x02, 0x13, 0x00, 0xF4, 0xDC] := by decide +kernel

/-- Section 10.8: those bytes, one by one, pause a FLOWING line A. -/
theorem test_bytes_pause_line : gives
    (runCommands ([0xC3, 0x02, 0x13, 0x00, 0xF4, 0xDC].map (Instr.linkByteReceived .reel)) (onA .flowing sale))
    (fun t => decide (t.lines.a.state = .paused ∧ t.lines.a.delivery.pauseCause = some .driver)) = true := by decide +kernel

/-- Section 10.8: the frame lost in the dropout leaves line A flowing, and the receiver in HUNT. -/
theorem test_gap_loses_frame : gives
    (runCommands (([0xC3, 0x02, 0x13].map (Instr.linkByteReceived .reel)) ++ [.receiveGapTimeout .reel]) (onA .flowing sale))
    (fun t => decide (t.lines.a.state = .flowing ∧ (t.front .reel).rx = .hunt)) = true := by decide +kernel

/-- Section 10.8: a START for line B while the PAUSE reply is on the wire is answered LINK_BUSY. -/
theorem test_link_busy : gives
    (exec (.start .reel [1]) (withReel ready (fun f => { f with request := some (.pause, [0]) })))
    (fun t => decide ((t.front .reel).queue.map TxFrame.body = [[0x12, 0x02]])) = true := by decide +kernel

/-- Section 1.2: the positions that carry an extra quantum at T = 5. -/
theorem test_trim_positions : ((List.range 17).filter (fun p => increment ⟨1002, 5⟩ p = 1003)) = [4, 7, 10, 13, 16] := by
  decide +kernel

/-- Section 1.13, window 1: its last four pulses at MAIN, at positions 5 to 8, make it 40,092 vq. -/
theorem test_first_window : gives
    (runCommands (List.replicate 4 (Instr.pickup1Pulse .a)) (onA .flowing { sale with counts := { sale.counts with
      g := 36083, gp := 36083, framePos := 4, nA := 36 } }))
    (fun t => decide (t.lines.a.delivery.counts.g = 40092 ∧ t.lines.a.delivery.counts.framePos = 8
      ∧ t.lines.a.totalizer = 4210593109 ∧ t.lines.a.delivery.counts.nA = 40)) = true := by decide +kernel

/-- Section 1.13, the expiry of window 1 (on a TEST, whose latched copies are fewer): Gp into Gs, strikes 0, band LOW, nA and nB cleared. -/
theorem test_window_expiry : gives
    (exec (.flowWindowExpiry .a 0) (onA .flowing { test with counts := { test.counts with
      nA := 40, nB := 39, g := 40092, gp := 40092, framePos := 8 } }))
    (fun t => decide (t.lines.a.delivery.counts = ⟨8, .low, 0, 0, 0, 0, 0, 40092, 0, 40092⟩)) = true := by decide +kernel

/-- Section 1.13, window 2: twelve pulses at LOW add 11,985 vq and end at frame position 4. -/
theorem test_second_window : gives
    (runCommands (List.replicate 12 (Instr.pickup1Pulse .a)) (onA .flowing { sale with counts := { sale.counts with
      g := 40092, gs := 40092, framePos := 8, band := .low } }))
    (fun t => decide (t.lines.a.delivery.counts.g = 52077 ∧ t.lines.a.delivery.counts.framePos = 4
      ∧ t.lines.a.totalizer = 4210605094)) = true := by decide +kernel

/-- Section 1.14, window 5: the second strike halts the line, with detail 9,896,076. -/
theorem test_pickup_mismatch : gives
    (exec (.flowWindowExpiry .a 0) (onA .flowing { sale with counts := { sale.counts with nA := 151, nB := 140, strikes := 1 } }))
    (fun t => decide (t.lines.a.state = .halted ∧ t.lines.a.delivery.haltCause = some .pickupMismatch
      ∧ t.faultLog.ring.map (fun x => x.entry.detail) = [9896076])) = true := by decide +kernel

/-- R16: the zero-window run at the no-flow limit pauses the line. -/
theorem test_no_flow : gives
    (exec (.flowWindowExpiry .a 0) (onA .flowing { sale with counts := { sale.counts with zeroRun := 29 } }))
    (fun t => decide (t.lines.a.state = .paused ∧ t.lines.a.delivery.pauseCause = some .noFlow)) = true := by decide +kernel

/-- The rows of the table under R31. -/
theorem test_average_rows : roundHalfAway (-2401) 2 = -1201 ∧ roundHalfAway 2401 2 = 1201
    ∧ roundHalfAway (-97840000000) 81500000 = -1200 ∧ roundHalfAway (-326800000) 550000 = -594 := by decide +kernel

/-- The rows of the table under R32. -/
theorem test_vcf_rows : vcfOf 840 (-2000) = 1029400 ∧ vcfOf 840 (-1200) = 1022680 ∧ vcfOf 845 (-1210) = 1022900
    ∧ vcfOf 840 2500 = 991600 ∧ vcfOf 2000 (-3500) = 1100000 ∧ vcfOf 2000 (-3600) = 1100000 := by decide +kernel

/-- Section 2.7: the record at the close sample. -/
def earlyEnd : Delivery :=
  { sale with
    counts := { sale.counts with g := 81500000, gp := 230000, gs := 81270000 }
    corr := ⟨-97573200000, some (-1160), some (-1201), 1022688⟩ }

/-- Section 2.7: the close sample and the final correction, and section 6.8: the ticket's price part. -/
theorem test_early_end : gives (exec (.quietTimerExpiry .a (BitVec.ofInt 16 (-1160))) (onA .settling earlyEnd))
    (fun t => let d := t.lines.a.delivery
      decide (t.lines.a.state = .recording ∧ d.corr.w = -97840000000 ∧ d.counts.gs = 81500000
        ∧ d.final = some ⟨some (-1200), 1022680, 81500, 83348, some 83348⟩
        ∧ ((d.ticket.getD []).drop 112).take 22
          = beBytes 1 1 ++ beBytes 1 2 ++ beBytes 3 12490 ++ beBytes 3 0 ++ beBytes 4 104102 ++ beBytes 2 500 ++ beBytes 4 5205
            ++ beBytes 4 109307)) = true := by decide +kernel

/-- Section 6.9: plan 1 at the edges of its tiers, and plan 2 without an OPEN tier. -/
theorem test_price_edges :
    let row := fun p r q => let x := priceOf p r q; (x.tier, x.subtotal, x.tax, x.total)
    row ⟨1, tiers⟩ 500 0 = (1, 1500, 75, 1575) ∧ row ⟨1, tiers⟩ 500 50000 = (1, 65950, 3298, 69248)
      ∧ row ⟨1, tiers⟩ 500 50001 = (2, 62451, 3123, 65574) ∧ row ⟨1, tiers⟩ 500 100000 = (2, 124900, 6245, 131145)
      ∧ row ⟨1, tiers⟩ 500 300000 = (4, 359700, 17985, 377685)
      ∧ row ⟨2, [⟨some 200, 13500, 0⟩, ⟨some 800, 13100, 0⟩]⟩ 0 100000 = (2, 131000, 0, 131000) := by decide +kernel

/-- Section 4.11: the stop targets of 30,000 cL and 35,000 cL at the running VCFs of the sequence. -/
theorem test_net_targets :
    let d := fun v => ({ sale with preset := { sale.preset with amount := some 30000 }, corr := { sale.corr with runVcf := v } } : Delivery)
    (d 1020000).stopFor 0 = 29411765 ∧ (d 1020000).slowFor 0 = 27411765 ∧ (d 1020000).stopFor 5000 = 34313726
      ∧ (d 1021200).stopFor 5000 = 34273404 ∧ (d 1021208).stopFor 5000 = 34273136 := by decide +kernel

/-- Section 4.12: the second ADD is cut down to 1,999 cL. -/
theorem test_add_cut_down : gives
    (exec (.add .reel [0, 0, 0x0F, 0xA0]) (onA .paused { sale with preset := { sale.preset with
      amount := some 9995000, stagedTop := 3000 } }))
    (fun t => decide (t.lines.a.delivery.preset.stagedTop = 4999)) = true := by decide +kernel

/-- Section 4.11: a pulse past D drops a FULL valve to TRICKLE, and the main output goes off. -/
theorem test_slow_down : gives
    (exec (.pickup1Pulse .a) (onA .flowing { withG sale 77999000 with preset := { sale.preset with stage := .full } }))
    (fun t => decide (t.lines.a.delivery.preset.stage = .trickle ∧ t.lines.a.trickleOut = true ∧ t.lines.a.mainOut = false
      ∧ t.pump = true)) = true := by decide +kernel

/-- The part as manufactured, through its first start-up, is the state after reset (log 1). -/
theorem test_first_start_up : gives
    (runCommands [.startUpSequence, .restartUpdateCompletion, .startUpFinish] State.manufactured)
    (fun t => decide (t = State.reset)) = true := by decide +kernel

/-! ## Commands on small states -/

/-- R96 to R98, section 6.8: LOAD_ORDER into the lowest FREE slot, at a tax rate of 500 (0x01F4) basis points. -/
theorem test_load_order : gives (exec (.loadOrder .cab (loadBody { order with orderId := 9 })) ready)
    (fun t => decide (t.orders.counter = 2 ∧ (t.orders.slot 1).seq = 1
      ∧ (t.orders.slot 1).order?.map (fun o => o.copy.taxRate) = some 500)) = true := by decide +kernel

/-- R48, R96, R125, R196: an order reported with its arrival time shows it at offset 25, and the tax rate whole at offsets 24 and
34; the ticket's order copy has it at 24 and 25, and the latch check code takes offset 25 as 0. -/
theorem test_reported_order : (reportedOrder ⟨order, some 0x01020304, 5⟩).drop 24 = [1, 1, 1, 2, 3, 4, 0, 0, 0, 5, 0xF4]
    ∧ (orderBytes order).drop 24 = [1, 0xF4] ∧ (latchedOrder order).drop 24 = [1, 0] := by decide +kernel

/-- R202: at the completion of a fault-log write an entry that joined the ring while it was in flight stays unstored, though it
equals one that the write carried. -/
theorem test_equal_entry_unstored :
    let e : FaultEntry := ⟨none, .estop, none, 0⟩
    ((FaultLog.written ⟨[⟨e, false, true⟩, ⟨e, false, false⟩], [], 0, some .inFlight, false⟩ 1).ring.map RingEntry.stored
      = [true, false]) ∧ (FaultLog.written ⟨[⟨e, false, true⟩, ⟨e, false, false⟩], [], 0, none, false⟩ 1).wanted = true := by
  decide +kernel

/-- R101, R190: READ_ORDERS from slot 0 lists the one WAITING order and gives no slot to continue from. -/
theorem test_read_orders : (readOrdersData ready.orders 0).take 5 = [1, 0, 0, 1, 0] ∧ (readOrdersData ready.orders 0).drop 40
    = [1, 0, 0, 0, 0, 1, 0xFF] := by decide +kernel

/-- R161: just after the wrap, 4,294,967,295 is older than a trail of 1 to 64, and 65 is newer. -/
theorem test_audit_wrap :
    let st := { State.reset.store with audit := List.replicate 64 (.testRun ⟨.a, .p0, 1, 0, 0, none, 1000000, 0, 1, false, none⟩) }
    st.auditFind 4294967295 = .lost ∧ st.auditFind 65 = .none ∧ st.auditFind 64 = .entry 63 := by decide +kernel

/-- R158, R161: no entry has left a trail that is not full, so no number is older than its oldest. -/
theorem test_audit_not_full :
    let st := { State.reset.store with audit := List.replicate 63 (.testRun ⟨.a, .p0, 1, 0, 0, none, 1000000, 0, 1, false, none⟩) }
    st.auditFind 4294967295 = .none ∧ st.auditFind 64 = .none ∧ st.auditFind 63 = .entry 62 := by decide +kernel

/-- R199, R198: a fault whose name is a cause takes the cause's code. -/
theorem test_fault_codes : [FaultCode.creep, .pickupMismatch, .latchIntegrity, .calIntegrity, .estop].map faultCodeByte
    = [0x21, 0x22, 0x23, 0x24, 0x14] := by decide +kernel

/-- R97: an id already held is refused with DUPLICATE_ORDER. -/
theorem test_duplicate_order : gives (exec (.loadOrder .cab (loadBody order)) ready)
    (fun t => decide ((t.front .cab).queue.map TxFrame.body = [[0x01, 0x13]])) = true := by decide +kernel

/-- R46: an ARM takes line A to ARMED with the targets of section 2.7 and binds the slot. -/
theorem test_arm : gives (exec (.arm .reel [0, 0]) ready)
    (fun t => decide (t.lines.a.state = .armed ∧ t.lines.a.delivery.preset.stop = 80000000
      ∧ t.lines.a.delivery.preset.slow = 78000000 ∧ t.journal.reservations = 1)
      && (t.orders.slot 0).isBound) = true := by decide +kernel

/-- R44 check 1: line B is UNVERIFIED. -/
theorem test_arm_unverified : gives (exec (.arm .reel [1, 0]) ready)
    (fun t => decide ((t.front .reel).queue.map TxFrame.body = [[0x11, 0x06]])) = true := by decide +kernel

/-- R49: ARM_TEST with the inspection switch closed. -/
theorem test_arm_test_closed : gives (exec (.armTest .metrology [1, 0, 0, 0, 0x07, 0xD0]) ready)
    (fun t => decide ((t.front .metrology).queue.map TxFrame.body = [[0x22, 0x08]])) = true := by decide +kernel

/-- R51: START opens the valve FULL and starts the pump. -/
theorem test_start : gives (exec (.start .reel [0]) (onA .armed sale))
    (fun t => decide (t.lines.a.state = .flowing ∧ t.lines.a.mainOut = true ∧ t.pump = true)) = true := by decide +kernel

/-- R55: START with ESTOP asserted is refused with ESTOP. -/
theorem test_start_estop : gives
    (exec (.start .reel [0]) (withInputs (onA .armed sale) (fun i => { i with estop := true })))
    (fun t => decide (t.lines.a.state = .armed ∧ (t.front .reel).queue.map TxFrame.body = [[0x12, 0x09]])) = true := by
  decide +kernel

/-- R63: STOP_LINE in SETTLING is answered ALREADY_ENDING. -/
theorem test_already_ending : gives (exec (.stopLine .cab [0]) (onA .settling sale))
    (fun t => decide ((t.front .cab).queue.map TxFrame.body = [[0x0A, 0x01, 0x00]])) = true := by decide +kernel

/-- R64, R106: DISARM gives the slot and the reservation back. -/
theorem test_disarm : gives (exec (.disarm .reel [0]) (onA .armed sale))
    (fun t => decide (t.lines.a.state = .idle ∧ t.journal.reservations = 0) && (t.orders.slot 0).isWaiting) = true := by
  decide +kernel

/-- R13: PICKUP2 outside FLOWING has no effect. -/
theorem test_pickup2_idle : gives (exec (.pickup2Pulse .a) (onA .paused sale))
    (fun t => decide (t.lines.a.delivery.counts.nB = 0)) = true := by decide +kernel

/-- R17: one creep pulse above the limit halts an ARMED line. -/
theorem test_creep_halts : gives
    (exec (.pickup1Pulse .a) (onA .armed { sale with counts := { sale.counts with creep := 20 } }))
    (fun t => decide (t.lines.a.state = .halted ∧ t.lines.a.delivery.haltCause = some .creep)) = true := by decide +kernel

/-- R18, R19: the first pulse of an unticketed stay makes its entry and counts at the MAIN band of the live record. -/
theorem test_unticketed : gives (exec (.pickup1Pulse .a) ready)
    (fun t => decide (t.lines.a.unticketed = 1002 ∧ t.faultLog.ring.map (fun x => x.entry.code) = [.unticketedFlow])) = true := by
  decide +kernel

/-- R79: ESTOP closes the outputs and makes an entry whose detail is the pump output. -/
theorem test_estop : gives (exec .estopAsserted (onA .flowing { sale with preset := { sale.preset with stage := .full } }).drive)
    (fun t => decide (t.lines.a.state = .paused ∧ t.pump = false ∧ t.lines.a.mainOut = false
      ∧ t.faultLog.ring.map (fun x => x.entry.detail) = [1])) = true := by decide +kernel

/-- R151, R152: an accepted WRITE_RECORD of LINE A waits for the engine and leaves the shadow. -/
theorem test_write_record : gives
    (exec (.writeRecord .metrology (0 :: contentBytes (.line .a { lineRec with creepLimit := 9 })))
      (withInputs ready (fun i => { i with inspectionOpen := true })))
    (fun t => decide (t.cal.pendingWrite = some (.line .a, .inFlight) ∧ (t.cal.shadows.line.get .a).contents = lineRec
      ∧ t.store.eventCounter = 0 ∧ t.engine.state = .writing)) = true := by decide +kernel

/-- R48, R85: a disturbed latched copy halts the line at its next expiry. -/
theorem test_latch_check : gives
    (runCommands [.latchedCopyDisturbed .a { test.latched with line := { lineRec with lowMax := 61 } }, .flowWindowExpiry .a 0]
      (onA .flowing { test with counts := { test.counts with nA := 40, nB := 40 } }))
    (fun t => decide (t.lines.a.state = .halted ∧ t.lines.a.delivery.haltCause = some .latchIntegrity)) = true := by decide +kernel

/-- R164, R166: a shadow upset under an open delivery halts it at the next sweep. -/
theorem test_sweep_halts : gives
    (runCommands [.shadowUpset true (.line .a { lineRec with lowMax := 61 }), .sweepTimerExpiry] (onA .flowing sale))
    (fun t => decide (t.lines.a.state = .halted ∧ t.lines.a.delivery.haltCause = some .calIntegrity
      ∧ t.cal.lastSweep = some false)) = true := by decide +kernel

/-- R173: a power-fail warning while line A flows holds its snapshot and stops its window. -/
theorem test_power_failure : gives (exec .powerFailWarning (onA .flowing (withG sale 5000)))
    (fun t => decide (t.restart.phase = .saving ∧ (t.restart.held.get .a).state = .flowing
      ∧ (t.restart.held.get .a).delivery.counts.g = 5000 ∧ t.lines.a.windowRunning = false)) = true := by decide +kernel

/-- The part STOPPED with two snapshots in its store. -/
def stoppedWith (a b : Snapshot) : State :=
  { inPhase ready .stopped .stopped with store := { ready.store with snapshots := ⟨a, b⟩ } }

/-- R175, R178: the snapshot of a flowing SALE becomes an interrupted ticket under number 1. -/
theorem test_recovery : gives
    (exec .startUpSequence (stoppedWith ⟨.flowing, withG sale 5000, 4210558017, 0, false⟩ manufacturedSnapshot))
    (fun t => decide (t.restart.tickets = 1 ∧ t.journal.nextNumber = 2
      ∧ (t.restart.held.get .a).delivery.endCause = some .power ∧ (t.restart.held.get .a).delivery.flags.interrupted = true)) = true := by
  decide +kernel

/-- R183: the device time wraps. -/
theorem test_clock_wraps : gives (exec .clockSecond { ready with restart := { ready.restart with time := 4294967295 } })
    (fun t => decide (t.restart.time = 0)) = true := by decide +kernel

/-- R192: a notice that finds the queue full takes the place of the oldest notice that is not START_UP. -/
theorem test_full_queue : gives
    (exec (.airAsserted .a) (withReel (onA .flowing sale) (fun f => { f with
      queue := List.replicate 8 ⟨.notice .runningTotal, 0xA1, []⟩ })))
    (fun t => decide ((t.front .reel).queue.length = 8 ∧ (t.front .reel).lost = 1)) = true := by decide +kernel

/-! ## Ill-formed commands -/

theorem test_wf_body_too_long : WellFormed.instr (.arm .reel (List.replicate 249 0)) = false := by decide +kernel
theorem test_wf_body_longest : WellFormed.instr (.arm .reel (List.replicate 248 0)) = true := by decide +kernel
theorem test_wf_known_kind : WellFormed.instr (.unknownRequest .cab 0x11 []) = false := by decide +kernel
theorem test_wf_unknown_kind : WellFormed.instr (.unknownRequest .cab 0x1F []) = true := by decide +kernel
theorem test_wf_ticket_length : WellFormed.instr (.storedTicketDamage 0 (List.replicate 137 0)) = false := by decide +kernel
theorem test_wf_account_too_long :
    WellFormed.instr (.latchedCopyDisturbed .a { latched with order := some { order with account := List.replicate 11 65 } }) = false := by
  decide +kernel
theorem test_wf_name_too_long : WellFormed.instr
    (.latchedCopyDisturbed .a { latched with settings := { latched.settings with name := List.replicate 13 65 } }) = false := by
  decide +kernel
theorem test_wf_plan_of_no_tiers :
    WellFormed.instr (.latchedCopyDisturbed .a { latched with plan := some ⟨1, []⟩ }) = false := by decide +kernel
theorem test_wf_plan_of_nine_tiers :
    WellFormed.instr (.latchedCopyDisturbed .a { latched with plan := some ⟨1, List.replicate 9 ⟨none, 0, 0⟩⟩ }) = false := by
  decide +kernel

/-- The table gives no bits (log 34). -/
theorem test_no_word_spells_a_command : decodeTableWord 8 0x11 = none := by decide +kernel

/-- The common check value of this CRC-32 (polynomial 0x04C11DB7, not reflected, inverted: R162) over the digits 1 to 9. -/
theorem test_crc32 : crc32 [49, 50, 51, 52, 53, 54, 55, 56, 57] = 0xFC891918#32 := by decide +kernel

/-! ## States that meet the statements' hypotheses -/

/-- StepTakesFrontCommand: an empty queue and one with a command. -/
theorem witness_step : State.reset.pending = [] ∧ ({ State.reset with pending := [.clockSecond] } : State).pending = .clockSecond :: [] := by
  decide +kernel

/-- A request pending on the reel link. -/
def busyReel : State := withReel ready (fun f => { f with request := some (.pause, [0]) })

/-- FrontJudgesFrames: each phase and pending request it tells apart, on a link that is not marked and on one that is. -/
theorem witness_fronts : (inPhase ready .saving .saving).restart.phase ≠ .running ∧ ready.restart.phase = .running
    ∧ (busyReel.front .reel).request ≠ none ∧ busyReel.restart.phase = .running
    ∧ (ready.front .cab).request = none ∧ permitted .arm .cab = false ∧ requestOf? 0x11 = some .arm ∧ requestOf? 0x1F = none := by
  decide +kernel

/-- EveryTakenRequestIsAnswered: a queue of 8 notices. -/
theorem witness_answered :
    let s := withReel ready (fun f => { f with queue := firstStartUp :: List.replicate 7 ⟨.notice .runningTotal, 0xA1, []⟩ })
    Takes s .reel .arm ∧ (∀ x ∈ (s.front .reel).queue, x.tag ≠ .reply) ∧ (s.front .reel).queue.length ≤ 8
      ∧ ((s.front .reel).queue.filter (TxFrame.isNotice .startUp)).length ≤ 1
      ∧ ∀ x, (s.front .reel).sending = some x → x.tag ≠ .reply := by
  refine ⟨takes_of (by decide +kernel), by decide +kernel, by decide +kernel, by decide +kernel, ?_⟩
  intro x h
  cases h
  decide

/-- TransmissionEndsAndNextStarts: a notice and a reply on the wire. -/
theorem witness_transmission : ready.restart.phase = .running ∧ (ready.front .cab).sending = some firstStartUp
    ∧ ((withReel busyReel (fun f => { f with sending := some ⟨.reply, 0x80, [0x13, 0, 0]⟩ })).front .reel).sending
      = some ⟨.reply, 0x80, [0x13, 0, 0]⟩ := by decide +kernel

/-- A link front with a full queue of frames with these tags, nothing on the wire. -/
def fullFront (tags : List FrameTag) : LinkFront := { ready.links.cab with sending := none, queue := tags.map (fun x => ⟨x, 0, []⟩) }

/-- TransmissionEndsAndNextStarts: a queue with a place in each phase; full queues whose oldest RUNNING_TOTAL, FAULT_RAISED and
other notice is given up; and full queues with no such notice, with a LINK_BUSY refusal and with another. -/
theorem witness_full_queue :
    let total := FrameTag.notice .runningTotal
    let rest := List.replicate 6 (FrameTag.notice .lineState)
    let only := fun c => fullFront (FrameTag.notice .startUp :: List.replicate 7 (FrameTag.refusal c))
    (fullFront (List.replicate 7 total)).queue.length < 8 ∧ (fullFront (List.replicate 6 total)).queue.length < 7
      ∧ 8 ≤ (fullFront (.notice .faultRaised :: total :: rest)).queue.length
      ∧ (fullFront (.notice .faultRaised :: total :: rest)).queue.map TxFrame.tag = [.notice .faultRaised] ++ total :: rest
      ∧ (∀ z ∈ (fullFront (.notice .startUp :: .notice .faultRaised :: rest)).queue, z.tag ≠ total)
      ∧ (∀ z ∈ (fullFront (.notice .startUp :: .reply :: rest)).queue, z.tag ≠ total ∧ z.tag ≠ .notice .faultRaised)
      ∧ 8 ≤ (only .linkBusy).queue.length ∧ (∀ z ∈ (only .linkBusy).queue, ∀ k, z.tag = .notice k → k = .startUp)
      ∧ (∀ z ∈ (only .unknownRequest).queue, z.tag ≠ .refusal .linkBusy ∧ ∀ k, z.tag = .notice k → k = .startUp) := by
  refine ⟨?_, ?_, ?_, ?_, ?_, ?_, ?_, ?_, ?_⟩
  iterate 7 decide +kernel
  all_goals
    intro z hz
    simp only [fullFront, List.mem_map, List.mem_cons, List.mem_replicate] at hz
    obtain ⟨x, rfl | ⟨-, rfl⟩, rfl⟩ := hz <;> simp

/-- ReceiverTakesBytes: every receive state, with the least and the greatest length and those outside. -/
theorem witness_receiver :
    let rx := fun r => ((withReel ready (fun f => { f with rx := r })).front .reel).rx
    rx .hunt = .hunt ∧ (0xC2 : Byte) ≠ 0xC3 ∧ rx .length = .length ∧ 1 ≤ (1 : Byte).toNat ∧ (249 : Byte).toNat ≤ 249
      ∧ (0 : Byte).toNat = 0 ∧ 250 ≤ (250 : Byte).toNat ∧ rx (.kind 1) = .kind 1 ∧ rx (.kind 2) = .kind 2
      ∧ rx (.body 3 0x11 []) = .body 3 0x11 [] ∧ ([] : List Byte).length + 2 < 3
      ∧ rx (.body 2 0x11 []) = .body 2 0x11 [] ∧ 2 = ([] : List Byte).length + 2
      ∧ rx (.check 0x11 [] none) = .check 0x11 [] none := by decide +kernel

/-- FrameBytesActAsTheFrame: the shortest and the longest body, and a second check byte that does not agree. -/
theorem witness_frame : ([] : List Byte).length ≤ 248 ∧ (List.replicate 248 (0 : Byte)).length ≤ 248
    ∧ (ready.front .reel).rx = .hunt ∧ (0xDD : Byte) ≠ (frameBytes 0x13 [0x00]).getLastD 0 := by decide +kernel

/-- Two tickets held, the older TRANSFERRED or not. -/
def holding (transferred : Nat) : State := withHeader ready ⟨0, 2, 1, transferred⟩

/-- READ_AUDIT's trail of one entry, numbered 1, with the last number not held; a full trail numbered from 1, with the numbers at the
ends of what is newer and what is older (R161). -/
theorem witness_audit :
    let e := AuditEntry.testRun ⟨.a, .p0, 1, 0, 0, none, 1000000, 0, 1, false, none⟩
    let st := { ready.store with audit := [e] }
    let full := { ready.store with audit := List.replicate 64 e }
    ready.store.audit = [] ∧ st.audit[0]? = some e ∧ st.audit.length ≤ 64 ∧ 1 ≤ st.auditOldest ∧ st.auditOldest ≤ 4294967295
      ∧ auditNumber st 0 = 1 ∧ parseNumberOrKeyword [1, 0, 0, 0, 1] = some (some (auditNumber st 0))
      ∧ parseNumberOrKeyword [1, 0xFF, 0xFF, 0xFF, 0xFF] = some (some (auditNumber st (st.audit.length + 4294967293)))
      ∧ 4294967293 < 4294967295 - st.audit.length ∧ st.audit.length < 64
      ∧ full.audit[0]? = some e ∧ full.audit.length = 64
      ∧ parseNumberOrKeyword [1, 0x80, 0, 0, 0x1F] = some (some (auditNumber full (full.audit.length + 2147483614)))
      ∧ 2147483614 < (4294967295 - 64) / 2
      ∧ parseNumberOrKeyword [1, 0x80, 0, 0, 0x20] = some (some (auditNumber full (full.audit.length + 2147483615)))
      ∧ (4294967295 - 64) / 2 ≤ 2147483615 ∧ 2147483615 < 4294967295 - full.audit.length := by decide +kernel

/-- ReadsChangeNothing: a body for each request, a ticket held and one not held. -/
theorem witness_reads : Takes ready .cab .readStatus ∧ Takes ready .reel .readLine ∧ parseLine [1] = some .b
    ∧ Takes ready .cab .readOrders ∧ parseSlot [23] = some 23 ∧ Takes ready .reel .searchOrder
    ∧ parseSearch [0, 0, 0, 255, 255, 255] = some (0, 0xFFFFFF) ∧ Takes ready .cab .readPlan ∧ parsePlanNo [7] = some 7
    ∧ Takes (holding 0) .cab .readTicket ∧ parseNumberOrKeyword [1, 0, 0, 0, 2] = some (some 2)
    ∧ 2 = (holding 0).journal.header.oldestNumber + 1 ∧ parseNumberOrKeyword [0, 0, 0, 0, 0] = some none
    ∧ 1 < (holding 0).journal.header.count ∧ 0 = (holding 0).journal.header.transferred ∧ parseNumberOrKeyword [1, 0, 0, 0, 3] = some (some 3)
    ∧ (holding 0).journal.header.oldestNumber + (holding 0).journal.header.count ≤ 3
    ∧ (holding 2).journal.header.count ≤ (holding 2).journal.header.transferred ∧ Takes ready .metrology .readFaultLog
    ∧ parsePosition [31] = some 31 ∧ Takes ready .metrology .readTotals ∧ Takes ready .metrology .readAudit
    ∧ Takes ready .metrology .readRecord ∧ parseRecordId [13] = some (.product .p3) ∧ Takes ready .metrology .readChecksum :=
  by
  refine ⟨takes_of ?_, takes_of ?_, ?_, takes_of ?_, ?_, takes_of ?_, ?_, takes_of ?_, ?_, takes_of ?_, ?_, ?_, ?_, ?_, ?_, ?_, ?_, ?_,
    takes_of ?_, ?_, takes_of ?_, takes_of ?_, takes_of ?_, ?_, takes_of ?_⟩ <;> decide +kernel

/-- SearchFindsOldestMatch: no order, and one that is the oldest hit. -/
theorem witness_search : (∀ n, State.reset.orders.slot n = .free)
    ∧ ready.orders.slot 0 = .waiting ⟨order, none, 0⟩ ∧ order.site &&& 0xFFFF00 = 4854279 &&& 0xFFFF00
    ∧ (∀ m, m ≠ 0 → ready.orders.slot m = .free) ∧ [(0 : SlotNo)].Nodup := by decide +kernel

/-- OutOfRangeIsRefused: a body out of range for each request, on a front that takes it, with the switch open where it is
judged first. -/
theorem witness_out_of_range :
    let open' := withInputs ready (fun i => { i with inspectionOpen := true })
    (∀ k, Takes ready .cab k ∨ Takes ready .reel k ∨ Takes open' .metrology k) ∧ open'.inputs.inspectionOpen = true
      ∧ parseLoadOrder (loadBody { order with taxRate := 5001 }) = none ∧ parseOrderId [0, 0, 0, 0] = none ∧ parseSlot [24] = none
      ∧ parseSearch [] = none ∧ parseWritePlan [8, 0] = none ∧ parsePlanNo [8] = none ∧ parseSettings (List.replicate 17 0) = none
      ∧ parseNumber32 [0, 0, 0] = none ∧ parseNumberOrKeyword [1, 0, 0, 0, 0] = none ∧ parsePosition [32] = none
      ∧ parseArm [0, 24] = none ∧ parseArmTest [1, 0, 0, 0, 0, 0] = none ∧ parseAdd [0, 0, 0, 0] = none ∧ parseLine [2] = none
      ∧ parseRecordId [14] = none ∧ parseWriteRecord [0, 1, 0, 1, 0, 0, 1, 0, 0] = none := by
  refine ⟨fun k => ?_, by decide +kernel⟩
  cases k <;> first
    | exact .inl (takes_of (by decide +kernel))
    | exact .inr (.inl (takes_of (by decide +kernel)))
    | exact .inr (.inr (takes_of (by decide +kernel)))

/-- OutOfRangeIsRefused: a body at an end of its ranges for each parser, which takes it. -/
theorem witness_in_range : [(parseLoadOrder (loadBody { order with taxRate := 5000, amount := 9999999, product := .p3 })).isSome,
    (parseOrderId [0, 0, 0, 1]).isSome, (parseSlot [23]).isSome, (parseSearch [0, 0, 0, 0, 0, 0]).isSome,
    (parseWritePlan [7, 1, 1, 1, 0x86, 0x9F, 1, 0x86, 0x9F, 0x0F, 0x42, 0x3F]).isSome, (parsePlanNo [7]).isSome,
    (parseSettings (3 :: List.replicate 12 0 ++ [1, 0x86, 0x9F, 120])).isSome, (parseNumber32 [255, 255, 255, 255]).isSome,
    (parseNumberOrKeyword [1, 0, 0, 0, 1]).isSome, (parsePosition [31]).isSome, (parseArm [1, 23]).isSome,
    (parseArmTest [1, 1, 3, 0x98, 0x96, 0x7F]).isSome, (parseAdd [1, 0x98, 0x96, 0x7F]).isSome, (parseLine [1]).isSome,
    (parseRecordId [13]).isSome, (parseWriteRecord [1, 0, 0, 0, 1, 15, 1, 0xFF, 0x38]).isSome,
    (parseWriteRecord [9, 0, 100, 15, 0, 100, 0, 0, 100, 0]).isSome,
    (parseWriteRecord [13, 0x07, 0xD0, 0x17, 0x70, 1]).isSome].all id = true := by decide +kernel

/-- LoadOrderTakesLowestFreeSlot: an id held, a full table, and a slot free behind a taken one. -/
theorem witness_load_order :
    let full := { ready with orders := ⟨Vector.replicate 24 (.waiting ⟨order, none, 0⟩), 4294967295⟩ }
    Takes ready .cab .loadOrder ∧ Takes full .cab .loadOrder ∧ parseLoadOrder (loadBody order) = some order
      ∧ parseLoadOrder (loadBody { order with orderId := 9 }) = some { order with orderId := 9 }
      ∧ (ready.orders.slot 0).order? = some ⟨order, none, 0⟩ ∧ (∀ m, full.orders.slot m ≠ .free)
      ∧ (∀ m : SlotNo, (full.orders.slot m).order? = some ⟨order, none, 0⟩) ∧ order.orderId ≠ 9
      ∧ (∀ m : SlotNo, m ≠ 0 → (ready.orders.slot m).order? = none)
      ∧ ready.orders.slot 1 = .free ∧ ∀ m, m < 1 → ready.orders.slot m ≠ .free := by
  refine ⟨takes_of (by decide +kernel), takes_of (by decide +kernel), ?_⟩
  decide +kernel

/-- WithdrawOrderByState: the id in a WAITING slot, in a BOUND one and in none. -/
theorem witness_withdraw : Takes ready .cab .withdrawOrder ∧ Takes (onA .armed sale) .cab .withdrawOrder
    ∧ parseOrderId [0, 0, 0, 7] = some 7 ∧ parseOrderId [0, 0, 0, 8] = some 8
    ∧ ready.orders.slot 0 = .waiting ⟨order, none, 0⟩ ∧ (onA .armed sale).orders.slot 0 = .bound .a ⟨order, none, 0⟩
    ∧ order.orderId.toNat = 7 ∧ (∀ m : SlotNo, ¬ m < 0) ∧ ∀ m : SlotNo, m ≠ 0 → (ready.orders.slot m).order? = none := by
  refine ⟨takes_of (by decide +kernel), takes_of (by decide +kernel), ?_⟩
  decide +kernel

/-- PlanAndSettingsReplacedWhole: a plan in order, one with OPEN before the last, one that does not ascend, and settings. -/
theorem witness_plans :
    let good := fun (ts : List Tier) =>
      (∀ t ∈ ts.dropLast, t.bound ≠ none) ∧ (ts.filterMap Tier.bound).Pairwise (fun a b => a.toNat < b.toNat)
    Takes ready .cab .writePlan ∧ Takes ready .cab .writeProductSettings ∧ parseWritePlan (planBytes 1 tiers) = some (1, tiers)
      ∧ good tiers ∧ parseWritePlan (planBytes 7 (tiers.drop 3 ++ tiers)) = some (7, tiers.drop 3 ++ tiers)
      ∧ ¬ good (tiers.drop 3 ++ tiers) ∧ parseWritePlan (planBytes 0 [⟨some 5, 1, 1⟩, ⟨some 5, 1, 1⟩]) = some (0, [⟨some 5, 1, 1⟩, ⟨some 5, 1, 1⟩])
      ∧ ¬ good [⟨some 5, 1, 1⟩, ⟨some 5, 1, 1⟩]
      ∧ parseSettings (0 :: settingsBytes ⟨[65], 99999, 120⟩) = some (.p0, ⟨[65], 99999, 120⟩) := by
  refine ⟨takes_of (by decide +kernel), takes_of (by decide +kernel), ?_⟩
  decide +kernel

/-- ClockIsSetAndCounts: a time, and the phase in which the clock runs. -/
theorem witness_clock : Takes ready .cab .setClock ∧ parseNumber32 [255, 255, 255, 255] = some 4294967295
    ∧ ready.restart.phase = .running := ⟨takes_of (by decide +kernel), by decide +kernel, by decide +kernel⟩

/-- AckMarksPrefix: an empty journal and one of two tickets, with a number for each of its cases. -/
theorem witness_ack : Takes ready .cab .ackTickets ∧ Takes (holding 0) .cab .ackTickets ∧ Takes (holding 2) .cab .ackTickets
    ∧ parseNumber32 [0, 0, 0, 0] = some 0 ∧ parseNumber32 [0, 0, 0, 1] = some 1 ∧ parseNumber32 [0, 0, 0, 2] = some 2
    ∧ parseNumber32 [0, 0, 0, 3] = some 3 ∧ ready.journal.header.count = 0
    ∧ (let h := (holding 0).journal.header
      h.transferred ≤ h.count ∧ h.oldestNumber + h.count - 1 < 3 ∧ 2 ≤ h.oldestNumber + h.count - 1
        ∧ h.oldestNumber + h.transferred ≤ 1 ∧ h.transferred ≠ h.count)
    ∧ (let h := (holding 2).journal.header
      h.transferred ≤ h.count ∧ h.count ≠ 0 ∧ 2 ≤ h.oldestNumber + h.count - 1 ∧ h.transferred = h.count) := by
  refine ⟨takes_of (by decide +kernel), takes_of (by decide +kernel), takes_of (by decide +kernel), ?_⟩
  decide +kernel

/-- FaultLogCleared: the switch closed, and open with no write outstanding and with one. -/
theorem witness_fault_log_cleared :
    let open' := withInputs ready (fun i => { i with inspectionOpen := true })
    let busy := { open' with faultLog := { open'.faultLog with outstanding := some .inFlight } }
    Takes ready .metrology .clearFaultLog ∧ Takes open' .metrology .clearFaultLog ∧ Takes busy .metrology .clearFaultLog
      ∧ ready.inputs.inspectionOpen = false ∧ open'.inputs.inspectionOpen = true ∧ busy.inputs.inspectionOpen = true
      ∧ open'.faultLog.outstanding = none ∧ open'.engine.takesFaultLog = true ∧ busy.faultLog.outstanding ≠ none := by
  refine ⟨takes_of (by decide +kernel), takes_of (by decide +kernel), takes_of (by decide +kernel), ?_⟩
  decide +kernel

/-! ### Requests of a controller -/

/-- A full journal whose oldest ticket is TRANSFERRED or not. -/
def fullJournal (transferred : Nat) : State := withHeader ready ⟨0, 256, 1, transferred⟩

/-- The part with the inspection switch open. -/
def inspected (s : State) : State := withInputs s (fun i => { i with inspectionOpen := true })

/-- ArmFillsTheRecord: room in the journal, and a full journal whose oldest ticket is TRANSFERRED. -/
theorem witness_arm : ∀ s ∈ [ready, fullJournal 1], Takes s .reel .arm ∧ parseArm [0, 0] = some (.a, 0) ∧ (s.line .a).state = .idle
    ∧ s.inputs.inspectionOpen = false ∧ s.inputs.estop = false ∧ s.orders.slot 0 = .waiting ⟨order, none, 0⟩ ∧ Pairs s .a .p0
    ∧ Swept s .a .p0 ∧ (∀ k, order.plan = some k → s.plan k ≠ []) ∧ s.journal.nextNumber + s.journal.reservations ≤ 4294967295
    ∧ (s.journal.header.count + s.journal.reservations < 256 ∨ 0 < s.journal.header.count ∧ 0 < s.journal.header.transferred) := by
  intro s hs
  simp only [List.mem_cons, List.not_mem_nil, or_false] at hs
  rcases hs with rfl | rfl <;>
    refine ⟨takes_of ?_, ?_, ?_, ?_, ?_, ?_, pairs_of ?_ ?_ ?_, swept_of ?_, ?_, ?_, ?_⟩ <;> decide +kernel

/-- ArmTestFillsTheRecord, with a gross preset and without. -/
theorem witness_arm_test : Takes (inspected ready) .metrology .armTest ∧ parseArmTest [1, 0, 0, 0, 0, 1] = some (.a, .p0, some 1)
    ∧ parseArmTest [0, 0, 0, 0, 0, 0] = some (.a, .p0, none) ∧ ((inspected ready).line .a).state = .idle
    ∧ (inspected ready).inputs.inspectionOpen = true ∧ (inspected ready).inputs.estop = false ∧ Pairs (inspected ready) .a .p0
    ∧ Swept (inspected ready) .a .p0 := by
  refine ⟨takes_of ?_, ?_, ?_, ?_, ?_, ?_, pairs_of ?_ ?_ ?_, swept_of ?_⟩ <;> decide +kernel

/-- A calibration write pending on METER_FACTOR (A, 0). -/
def calBusy (s : State) : State := { s with cal := { s.cal with pendingWrite := some (.meter .a .p0, .queued) } }

/-- LINE A upset in its shadow. -/
def upset (s : State) : State :=
  { s with cal := { s.cal with shadows := s.cal.shadows.put true (.line .a { lineRec with lowMax := 61 }) } }

/-- PRODUCT 0 INVALID. -/
def noProduct (s : State) : State :=
  { s with cal := { s.cal with shadows := s.cal.shadows.put false (.product .p0 productRec) } }

/-- ArmChecksInOrder: a state for each check, with all the checks before it passed. -/
theorem witness_arm_checks : Takes ready .reel .arm ∧ parseArm [0, 0] = some (.a, 0) ∧ parseArm [1, 23] = some (.b, 23)
    ∧ (ready.line .b).state = .unverified ∧ ((onA .recording sale).line .a).state ≠ .idle ∧ (ready.line .a).state = .idle
    ∧ (inspected ready).inputs.inspectionOpen = true ∧ ready.orders.slot 23 = .free
    ∧ ({ ready with orders := (onA .armed sale).orders } : State).orders.slot 0 = .bound .a ⟨order, none, 0⟩
    ∧ ready.orders.slot 0 = .waiting ⟨order, none, 0⟩ ∧ ((noProduct ready).cal.shadows.product.get .p0).valid = false
    ∧ (calBusy ready).cal.pendingWrite = some (.meter .a .p0, .queued) ∧ Pairs (upset ready) .a .p0 ∧ ¬ Swept (upset ready) .a .p0
    ∧ Pairs ready .a .p0 ∧ Swept ready .a .p0 ∧ ({ ready with plans := Vector.replicate 8 [] } : State).plan 1 = []
    ∧ 256 ≤ (fullJournal 0).journal.header.count + (fullJournal 0).journal.reservations ∧ (fullJournal 0).journal.header.transferred = 0 := by
  refine ⟨takes_of ?_, ?_, ?_, ?_, ?_, ?_, ?_, ?_, ?_, ?_, ?_, ?_, pairs_of ?_ ?_ ?_, not_swept_of ?_, pairs_of ?_ ?_ ?_, swept_of ?_,
    ?_, ?_, ?_⟩ <;> decide +kernel

/-- ArmChecksInOrder for ARM_TEST. -/
theorem witness_arm_test_checks : Takes ready .metrology .armTest ∧ Takes (inspected ready) .metrology .armTest
    ∧ parseArmTest [0, 0, 0, 0, 0, 0] = some (.a, .p0, none) ∧ ready.inputs.inspectionOpen = false
    ∧ (withInputs (inspected ready) (fun i => { i with estop := true })).inputs.estop = true
    ∧ ((inspected (noProduct ready)).cal.shadows.product.get .p0).valid = false
    ∧ (inspected (calBusy ready)).cal.pendingWrite = some (.meter .a .p0, .queued) ∧ Pairs (inspected (upset ready)) .a .p0
    ∧ ¬ Swept (inspected (upset ready)) .a .p0 := by
  refine ⟨takes_of ?_, takes_of ?_, ?_, ?_, ?_, ?_, ?_, pairs_of ?_ ?_ ?_, not_swept_of ?_⟩ <;> decide +kernel

/-- StartAndResumeLoad: G below the new stop target, and creep at it, from ARMED and from PAUSED. -/
theorem witness_start :
    let brim := withG sale 80000000
    parseLine [0] = some .a ∧ Takes (onA .armed sale) .reel .start ∧ Takes (onA .paused brim) .reel .resume
      ∧ ((onA .armed sale).line .a).state = .armed ∧ ((onA .paused brim).line .a).state = .paused
      ∧ sale.counts.g < (loaded sale).preset.stop ∧ (loaded brim).preset.stop ≤ brim.counts.g
      ∧ ready.inputs.estop = false ∧ ready.inputs.pumpFault = false ∧ ready.inputs.air.get .a = false := by
  refine ⟨?_, takes_of ?_, takes_of ?_, ?_, ?_, ?_, ?_, ?_, ?_, ?_⟩ <;> decide +kernel

/-- PauseByDriver: a FLOWING line and one that is not. -/
theorem witness_pause : Takes (onA .flowing sale) .reel .pause ∧ parseLine [0] = some .a
    ∧ ((onA .flowing sale).line .a).state = .flowing ∧ ((onA .flowing sale).line .b).state ≠ .flowing ∧ parseLine [1] = some .b := by
  refine ⟨takes_of ?_, ?_, ?_, ?_, ?_⟩ <;> decide +kernel

/-- The record of a FILL delivery. -/
def fillSale : Delivery := { sale with preset := { sale.preset with kind := some .fill, amount := none } }

/-- TopUpIsStaged: VOLUME and FILL, and the largest amount. -/
theorem witness_add : Takes (onA .armed sale) .reel .add ∧ parseAdd [0, 0x98, 0x96, 0x7F] = some (.a, 9999999)
    ∧ ((onA .armed sale).line .a).state = .armed ∧ sale.preset.kind ≠ some .fill ∧ fillSale.preset.kind = some .fill := by
  refine ⟨takes_of ?_, ?_, ?_, ?_, ?_⟩ <;> decide +kernel

/-- EndStopDisarm: a delivery with creep in ARMED, a SALE and a TEST with nothing delivered. -/
theorem witness_end : parseLine [0] = some .a ∧ Takes (onA .armed (withG sale 1)) .reel .endDelivery
    ∧ Takes (onA .halted sale) .cab .stopLine ∧ Takes (onA .armed test) .reel .disarm ∧ 0 < (withG sale 1).counts.g
    ∧ ((onA .halted sale).line .a).state = .halted ∧ ((onA .armed sale).line .a).state = .armed ∧ sale.counts.g = 0
    ∧ test.mode = some .test ∧ sale.mode = some .sale ∧ sale.slot = some 0
    ∧ (onA .armed sale).orders.slot 0 = .bound .a ⟨order, none, 0⟩ := by
  refine ⟨?_, takes_of ?_, takes_of ?_, takes_of ?_, ?_, ?_, ?_, ?_, ?_, ?_, ?_, ?_⟩ <;> decide +kernel

/-- LineRequestsTurnedAway: a line in each state that turns a request away, and each input that blocks. -/
theorem witness_turned_away : Takes ready .reel .start ∧ parseLine [0] = some .a ∧ (ready.line .a).state ≠ .armed
    ∧ (ready.line .a).state ≠ .paused ∧ Takes ready .reel .resume ∧ Takes ready .reel .add ∧ parseAdd [0, 0, 0, 1] = some (.a, 1)
    ∧ (ready.line .a).state = .idle ∧ (ready.line .b).state = .unverified ∧ Takes (onA .settling sale) .reel .endDelivery
    ∧ Takes (onA .recording sale) .cab .stopLine ∧ Takes (onA .flowing sale) .reel .disarm
    ∧ (withInputs (onA .armed sale) (fun i => { i with air := i.air.set .a true })).inputs.air.get .a = true
    ∧ (withInputs (onA .paused sale) (fun i => { i with pumpFault := true })).inputs.pumpFault = true
    ∧ ((onA .flowing sale).line .a).state ≠ .armed := by
  refine ⟨takes_of ?_, ?_, ?_, ?_, takes_of ?_, takes_of ?_, ?_, ?_, ?_, takes_of ?_, takes_of ?_, takes_of ?_, ?_, ?_, ?_⟩ <;>
    decide +kernel

/-! ### Calibration requests and the fault log -/

/-- RecordWriteByChecks: a state for each check, and the engine IDLE and WRITING. -/
theorem witness_write_record :
    let c := CalRecord.line .a lineRec
    let held := inspected (onA .recording sale)
    let writing := flying (inspected ready) (.restartUpdate 1 0)
    Takes ready .metrology .writeRecord ∧ ready.inputs.inspectionOpen = false ∧ Takes held .metrology .writeRecord
      ∧ parseWriteRecord (0 :: contentBytes c) = some c ∧ (held.line .a).state.holds = true ∧ c.id = .line .a
      ∧ (∀ l, ((inspected ready).line l).state.holds = false) ∧ (calBusy ready).cal.pendingWrite ≠ none
      ∧ ready.cal.pendingWrite = none ∧ 999999 ≤ ({ ready.store with eventCounter := 999999 } : Store).eventCounter
      ∧ ready.store.eventCounter < 999999 ∧ (inspected ready).engine.state = .idle ∧ writing.engine.state = .writing
      ∧ writing.engine.queue.length < 4 := by
  refine ⟨takes_of ?_, ?_, takes_of ?_, ?_, ?_, ?_, ?_, ?_, ?_, ?_, ?_, ?_, ?_, ?_⟩ <;> first | decide +kernel | (intro l; cases l <;> decide +kernel)

/-- FaultLogTakesEntries: an engine that takes the write at once, one that queues it, one whose queue is full, and an overflow
with a place and without. -/
theorem witness_fault_log :
    let w := flying ready (.restartUpdate 1 0)
    let full := List.replicate 4 (WriteUnit.restartUpdate 1 0)
    let e : FaultEntry := ⟨none, .creep, none, 0⟩
    ready.faultLog.overflow = [] ∧ ready.faultLog.outstanding = none ∧ ready.engine.state = .idle
      ∧ w.engine.state = .writing ∧ w.engine.queue.length < 4 ∧ WriteUnit.faultLog ∉ w.engine.queue ∧ ¬ full.length < 4
      ∧ (List.replicate 3 e).length < 4 ∧ 4 ≤ (List.replicate 4 e).length := by decide +kernel

/-- FaultLogTakesEntries: a write wanted with none outstanding and the ring full, the engine IDLE, WRITING with a place and with
a full queue; no write wanted, and one outstanding. -/
theorem witness_place_free :
    let e : FaultEntry := ⟨none, .creep, none, 0⟩
    let f : FaultLog := ⟨List.replicate 32 ⟨e, true, false⟩, [e], 0, none, true⟩
    let idle := { ready with faultLog := f }
    let writing := { flying ready (.restartUpdate 1 0) with faultLog := f }
    f.ring.length ≤ 32 ∧ f.wanted = true ∧ f.outstanding = none ∧ idle.engine.state = .idle ∧ writing.engine.state = .writing
      ∧ writing.engine.queue.length < 4 ∧ WriteUnit.faultLog ∉ writing.engine.queue
      ∧ WriteUnit.faultLog ∈ ({ writing.engine with queue := [.faultLog] } : Engine).queue
      ∧ ready.faultLog.wanted = false ∧ ({ f with outstanding := some .queued } : FaultLog).outstanding ≠ none := by decide +kernel

/-! ### Pulses -/

/-- TrimSpreadsOverFrame: the least and the greatest pair. -/
theorem witness_trim : (15 : BitVec 8).toNat ≤ 15 ∧ 100 ≤ (100 : BitVec 16).toNat ∧ 100 ≤ (65535 : BitVec 16).toNat ∧ 16 ≤ 16 := by
  decide +kernel

/-- PulseWhileFlowing: a pulse that reaches S, one that reaches D and one below. -/
theorem witness_flowing_pulse :
    let g := fun d => (counted ((onA .flowing d).line .a)).delivery.counts.g
    let full := { sale with preset := { sale.preset with stage := .full } }
    (onA .flowing sale).restart.phase = .running ∧ ((onA .flowing sale).line .a).state = .flowing
      ∧ sale.preset.stop ≤ g (withG sale 79998998) ∧ g (withG sale 79998997) < sale.preset.stop
      ∧ sale.preset.slow ≤ g (withG full 77998998) ∧ full.preset.stage = .full ∧ g sale < sale.preset.slow := by decide +kernel

/-- PulseWithValveClosed: creep at the limit and beyond it, HALTED and SETTLING. -/
theorem witness_closed_pulse :
    let creep := fun n => (onA .armed { sale with counts := { sale.counts with creep := n } })
    let after := fun n => (crept (counted ((creep n).line .a))).delivery
    (creep 0).restart.phase = .running ∧ ((creep 0).line .a).state = .armed
      ∧ (after 19).counts.creep ≤ (after 19).latched.line.creepLimit.toNat
      ∧ (after 20).latched.line.creepLimit.toNat < (after 20).counts.creep ∧ ((onA .paused sale).line .a).state = .paused
      ∧ ((onA .halted sale).line .a).state = .halted ∧ ((onA .settling sale).line .a).state = .settling := by decide +kernel

/-- PulseUnticketed: each of its states, the first pulse of a stay and a later one. -/
theorem witness_unticketed_pulse : ready.restart.phase = .running ∧ (ready.line .a).state = .idle ∧ (ready.line .b).state = .unverified
    ∧ ((onA .recording sale).line .a).state = .recording ∧ (ready.line .a).stayLogged = false
    ∧ ({ ready.line .a with stayLogged := true } : Line).stayLogged = true := by decide +kernel

/-- SecondPickupCountsInFlowing: FLOWING and another state. -/
theorem witness_second_pickup : (onA .flowing sale).restart.phase = .running ∧ ((onA .flowing sale).line .a).state = .flowing
    ∧ ((onA .flowing sale).line .b).state ≠ .flowing := by decide +kernel

/-- NothingCountsOutsideRunning: SAVING, and in RUNNING a timer that does not run. -/
theorem witness_nothing_counts : (inPhase ready .saving .saving).restart.phase ≠ .running ∧ (ready.line .a).windowRunning = false
    ∧ (ready.line .a).quietRunning = false ∧ (ready.line .a).capRunning = false
    ∧ (inPhase { ready with cal := { ready.cal with sweepRunning := false } } .saving .saving).cal.sweepRunning = false := by
  decide +kernel

/-! ### Inputs -/

/-- BlockingInputsPause and ReleasesAndInspectionSwitch: SAVING; RUNNING, with ESTOP and PUMP_FAULT released and asserted. -/
theorem witness_inputs : (inPhase ready .saving .saving).restart.phase ≠ .running ∧ ready.restart.phase = .running
    ∧ ready.inputs.estop = false ∧ ready.inputs.pumpFault = false
    ∧ (withInputs ready (fun i => { i with estop := true })).inputs.estop = true
    ∧ (withInputs ready (fun i => { i with pumpFault := true })).inputs.pumpFault = true := by decide +kernel

/-! ### Timers -/

/-- A TEST flowing with 40 pulses on both pickups in its window. -/
def steady (d : Delivery) : State := onA .flowing { d with counts := { d.counts with nA := 40, nB := 40 } }

/-- FlowWindowLoadsTargets: G at the new stop target; below it with the latched copies sound, and disturbed. -/
theorem witness_flow_window :
    let next := fun d => (loaded (sampled (judged ((steady d).line .a)) 0).delivery)
    let bad := { test with checkCode := test.checkCode + 1 }
    (steady test).restart.phase = .running ∧ ((steady test).line .a).state = .flowing ∧ ((steady test).line .a).windowRunning = true
      ∧ nextStrikes ((steady test).line .a).delivery ≠ 2
      ∧ nextRun ((steady test).line .a).delivery < ((steady test).line .a).delivery.latched.settings.noFlow.toNat
      ∧ (next (withG test 2000000)).preset.stop ≤ (next (withG test 2000000)).counts.g
      ∧ (next test).counts.g < (next test).preset.stop ∧ latchCode (next test).latched = (next test).checkCode
      ∧ (next bad).counts.g < (next bad).preset.stop ∧ latchCode (next bad).latched ≠ (next bad).checkCode := by
  intro next bad
  refine ⟨?_, ?_, ?_, ?_, ?_, ?_, ?_, ?_, ?_, ?_⟩ <;> decide +kernel

/-- FlowWindowRaisesEvent: a second strike, and the zero-window run that reaches the limit. -/
theorem witness_flow_event :
    let strike := { sale.counts with nA := 151, nB := 140, strikes := 1 }
    let dry := { sale.counts with zeroRun := 29 }
    (onA .flowing sale).restart.phase = .running ∧ ((onA .flowing sale).line .a).state = .flowing
      ∧ ((onA .flowing sale).line .a).windowRunning = true ∧ nextStrikes { sale with counts := strike } = 2
      ∧ nextStrikes { sale with counts := dry } ≠ 2 ∧ sale.latched.settings.noFlow.toNat ≤ nextRun { sale with counts := dry } := by
  decide +kernel

/-- SettlingEndsWithNothing: a SALE and a TEST with G = 0. -/
theorem witness_settling_nothing : (onA .settling sale).restart.phase = .running ∧ ((onA .settling sale).line .a).state = .settling
    ∧ ((onA .settling sale).line .a).quietRunning = true ∧ ((onA .settling sale).line .a).capRunning = true
    ∧ sale.counts.g = 0 ∧ test.counts.g = 0 ∧ test.mode = some .test ∧ sale.mode = some .sale ∧ sale.slot = some 0
    ∧ (onA .settling sale).orders.slot 0 = .bound .a ⟨order, none, 0⟩ := by decide +kernel

/-- SettlingEndsWithVolume: a SALE and a TEST with G = 1. -/
theorem witness_settling_volume : (onA .settling (withG sale 1)).restart.phase = .running
    ∧ ((onA .settling (withG sale 1)).line .a).state = .settling ∧ 0 < (withG sale 1).counts.g ∧ 0 < (withG test 1).counts.g
    ∧ ((onA .settling (withG sale 1)).line .a).quietRunning = true ∧ ((onA .settling (withG test 1)).line .a).capRunning = true
    ∧ (withG sale 1).mode = some .sale ∧ (withG test 1).mode = some .test
    ∧ (Delivery.finishTest .a false (sampled (countClosed ready ((onA .settling (withG test 1)).line .a)) 0).delivery).testRun.isSome = true := by
  decide +kernel

/-! ### Integrity -/

/-- SweepPassesOrFails: every record agreeing, and one upset. -/
theorem witness_sweep : ready.restart.phase = .running ∧ ready.cal.sweepRunning = true
    ∧ (∀ r ∈ allRecords, agreed ready r = true) ∧ (upset ready).restart.phase = .running
    ∧ agreed (upset ready) (.line .a) = false := by decide +kernel

/-- The store with LINE A VALID, `bits` of its LOW_MAX wrong. -/
def stored (bits : BitVec 16) : State :=
  { onA .flowing sale with store := { ready.store with
      records := ready.store.records.put true (.line .a { lineRec with lowMax := lineRec.lowMax ^^^ bits })
      sealed := ready.store.sealed.put true (.line .a lineRec) } }

/-- FailedSweepReloadsAndHalts: one wrong bit and two; a line that a record hits and one that none does. -/
theorem witness_failed_sweep :
    let wrong := fun (s : State) r => bitDistance (heldBytes (s.store.records.get r).1 (s.store.records.get r).2)
      (heldBytes (s.store.sealed.get r).1 (s.store.sealed.get r).2)
    let u := (Work.failedSweep [.line .b] ⟨ready, []⟩).st
    wrong (stored 1) (.line .a) ≤ 1 ∧ ((stored 1).store.sealed.get (.line .a)).1 = true ∧ 2 ≤ wrong (stored 3) (.line .a)
      ∧ (ready.store.sealed.get (.line .a)).1 = false ∧ RecordId.line .a ∈ [RecordId.line .a]
      ∧ ((stored 1).line .a).state = .flowing ∧ (ready.line .a).state = .idle
      ∧ (u.cal.shadows.line.get .a).valid = false ∧ ((onA .halted sale).line .a).state = .halted
      ∧ (ready.line .b).state = .unverified := by
  intro wrong u
  refine ⟨?_, ?_, ?_, ?_, ?_, ?_, ?_, ?_, ?_, ?_⟩ <;> decide +kernel

theorem succ_ne (v : Check) : v + 1 ≠ v := by bv_omega

/-- The store and the shadows with every LINE record VALID and the checksum over them: what a passed load keeps. -/
def sound : State :=
  let s := calibrate State.reset (.line .a lineRec)
  let v := s.cal.refs.checksum
  { s with
    lines := ready.lines
    store := { s.store with
      records := s.store.records.put true (.line .a lineRec), sealed := s.store.sealed.put true (.line .a lineRec)
      checksum := v, checksumSealed := v } }

/-- FailedSweepReloadsAndHalts: an IDLE line that calibration vouches for after the reload, every stored bit right. -/
theorem witness_failed_sweep_idle :
    let t := (Work.failedSweep [.product .p0] ⟨sound, []⟩).st
    (sound.line .a).state = .idle ∧ (t.cal.shadows.line.get .a).valid = true ∧ t.cal.consistent = true
      ∧ (∀ r ∈ allRecords, bitDistance (heldBytes (sound.store.records.get r).1 (sound.store.records.get r).2)
        (heldBytes (sound.store.sealed.get r).1 (sound.store.sealed.get r).2) ≤ 1)
      ∧ sound.store.checksum = sound.store.checksumSealed ∧ sound.store.checksumSealed = t.cal.refs.checksum := by decide +kernel

/-- FailedSweepReloadsAndHalts: a stored checksum that the reloaded records do not give. -/
theorem witness_failed_sweep_checksum :
    let s : State := { sound with store := { sound.store with checksumSealed := sound.cal.refs.checksum + 1 } }
    s.store.checksumSealed ≠ (Work.failedSweep [.product .p0] ⟨s, []⟩).st.cal.refs.checksum := by
  intro s h
  have e : (Work.failedSweep [.product .p0] ⟨s, []⟩).st.cal.refs = sound.cal.refs := by decide +kernel
  rw [e] at h
  exact absurd h (succ_ne _)

/-! ### The engine -/

/-- EngineTakesUnitsInOrder: each engine state, a queue with a place and without, and one that holds no fault-log write. -/
theorem witness_engine :
    let u := WriteUnit.restartUpdate 1 0
    WriteUnit.faultLog ∉ (List.replicate 3 u) ∧ ready.engine.state = .idle ∧ (flying ready u).engine.state = .writing ∧ (flying ready u).engine.queue = []
      ∧ (List.replicate 3 u).length < 4 ∧ 4 ≤ (List.replicate 4 u).length ∧ (inPhase ready .saving .saving).engine.state = .saving
      ∧ (inPhase ready .stopped .stopped).engine.state = .stopped
      ∧ ({ (flying ready u).engine with queue := [u] } : Engine).queue = u :: [] := by decide +kernel

/-- AppendCompletes: a line's append in RUNNING and in SAVING, and a recovery append. -/
theorem witness_append :
    let s := flying (onA .recording sale) (.journalAppend .a false 1 2 (List.replicate 138 0))
    let r := flying ready (.journalAppend .a true 1 2 (List.replicate 138 0))
    s.engine.inFlight = some ⟨.journalAppend .a false 1 2 (List.replicate 138 0), s.journal.header, s.journal.marks, []⟩
      ∧ s.restart.phase = .running ∧ (s.line .a).state = .recording ∧ (s.line .a).delivery.slot = some 0
      ∧ s.orders.slot 0 = .bound .a ⟨order, none, 0⟩ ∧ (inPhase s .saving .saving).restart.phase ≠ .running
      ∧ (inPhase s .saving .saving).engine.inFlight = s.engine.inFlight
      ∧ r.engine.inFlight = some ⟨.journalAppend .a true 1 2 (List.replicate 138 0), r.journal.header, r.journal.marks, []⟩ := by
  decide +kernel

/-- CalibrationWriteCompletes: a checksum that agrees with the reference checks and one that does not. -/
theorem witness_calibration :
    let c := CalRecord.line .a lineRec
    let check := recordCheck true c
    let right := (ready.cal.refs.put check c.id).checksum
    let unit := fun v => WriteUnit.calibration c check v 1 (.calChange 1 none none c)
    let s := fun v => flying ready (unit v)
    (s right).engine.inFlight = some ⟨unit right, (s right).journal.header, (s right).journal.marks, []⟩
      ∧ (s right).restart.phase = .running ∧ ((s right).cal.refs.put check c.id).checksum = right
      ∧ ((s (right + 1)).cal.refs.put check c.id).checksum ≠ right + 1
      ∧ (inPhase (s right) .saving .saving).restart.phase ≠ .running := by
  intro c check right unit s
  refine ⟨rfl, rfl, rfl, ?_, ?_⟩ <;> decide +kernel

/-- A TEST_RUN entry. -/
def run : TestRun := ⟨.a, .p0, 1, 0, 0, none, 1000000, 0, 1, false, none⟩

/-- OtherUnitsComplete: each unit in flight, and none. -/
theorem witness_other_units :
    let h := ready.journal.header
    (flying (onA .recording test) (.testRecord .a false run)).engine.inFlight = some ⟨.testRecord .a false run, h, 0, []⟩
      ∧ (flying ready (.testRecord .a true run)).engine.inFlight = some ⟨.testRecord .a true run, h, 0, []⟩
      ∧ ((onA .recording test).line .a).state = .recording ∧ ready.restart.phase = .running
      ∧ (flying ready (.restartUpdate 2 0)).engine.inFlight = some ⟨.restartUpdate 2 0, h, 0, []⟩
      ∧ (flying ready .faultLog).engine.inFlight = some ⟨.faultLog, h, 0, []⟩ ∧ ready.engine.inFlight = none := by decide +kernel

/-- OtherUnitsComplete: a test record in flight in STARTING and in SAVING, where its line's held snapshot is a TEST in RECORDING;
and for each completion a unit of another kind in flight. -/
theorem witness_other_phases :
    let held : Snapshot := ⟨.recording, test, 0, 0, false⟩
    let at' := fun (p : Phase) (e : EngineState) (recovery : Bool) =>
      let s := flying (onA .recording test) (.testRecord .a recovery run)
      { s with
        engine := { s.engine with state := e }
        restart := { s.restart with phase := p, held := ⟨held, held⟩ } }
    let h := ready.journal.header
    (at' .starting .writing true).restart.phase ≠ .running ∧ (at' .saving .saving false).restart.phase ≠ .running
      ∧ (at' .starting .writing true).engine.inFlight = some ⟨.testRecord .a true run, h, 0, []⟩
      ∧ (at' .saving .saving false).engine.inFlight = some ⟨.testRecord .a false run, h, 0, []⟩
      ∧ ((at' .starting .writing true).restart.held.get .a).state = .recording
      ∧ ((at' .starting .writing true).restart.held.get .a).delivery.mode = some .test
      ∧ (∀ n m, WriteUnit.testRecord .a true run ≠ .restartUpdate n m) ∧ WriteUnit.testRecord .a true run ≠ .faultLog
      ∧ (∀ l r n m x, WriteUnit.testRecord .a true run ≠ .journalAppend l r n m x)
      ∧ (∀ r c k n e, WriteUnit.testRecord .a true run ≠ .calibration r c k n e)
      ∧ ∀ l r x, WriteUnit.faultLog ≠ .testRecord l r x := by
  refine ⟨?_, ?_, ?_, ?_, ?_, ?_, ?_, ?_, ?_, ?_, ?_⟩
  iterate 6 decide +kernel
  all_goals (intros; simp)

/-- DisturbancesChangeTheirBitsAlone: an open delivery and a place that holds a record. -/
theorem witness_disturbances : ((onA .flowing sale).line .a).delivery.mode ≠ none
    ∧ (ready.store.places.set 255 (some (List.replicate 138 0)))[255] ≠ none := by decide +kernel

/-! ### Interruption and restart -/

/-- WarningAndSave: each phase, and in SAVING a unit in flight and none. -/
theorem witness_warning : ready.restart.phase = .running ∧ (inPhase ready .starting .writing).restart.phase = .starting
    ∧ (inPhase ready .saving .saving).restart.phase = .saving ∧ (inPhase ready .stopped .stopped).restart.phase = .stopped
    ∧ (inPhase ready .saving .saving).engine.inFlight = none
    ∧ (inPhase (flying ready .faultLog) .saving .saving).engine.inFlight ≠ none := by decide +kernel

/-- StartUpLoadsTheSave: STOPPED with the warning and RESET cleared, with the warning standing, and records of one and of two
wrong bits. -/
theorem witness_start_up :
    let s := stoppedWith manufacturedSnapshot manufacturedSnapshot
    let wrong := fun (s : State) r => bitDistance (heldBytes (s.store.records.get r).1 (s.store.records.get r).2)
      (heldBytes (s.store.sealed.get r).1 (s.store.sealed.get r).2)
    s.restart.phase = .stopped ∧ s.inputs.powerFail = false ∧ s.inputs.reset = false ∧ ready.restart.phase ≠ .stopped
      ∧ wrong (stored 1) (.line .a) ≤ 1 ∧ ((stored 1).store.sealed.get (.line .a)).1 = true ∧ 2 ≤ wrong (stored 3) (.line .a) := by
  decide +kernel

/-- StartUpLoadsTheSave: a store and held snapshots that make no entry, and ones that make an entry of each kind. -/
theorem witness_start_up_entries :
    let none' : PerLine Snapshot := ⟨manufacturedSnapshot, manufacturedSnapshot⟩
    let open' : PerLine Snapshot := ⟨⟨.flowing, withG sale 5000, 4210558017, 0, false⟩, manufacturedSnapshot⟩
    let bad := { (stored 3).store with header := ⟨0, 1, 1, 0⟩ }
    loadEntries none ready.store = [] ∧ damagedEntries ready.store = [] ∧ interruptedEntries .power none' = []
      ∧ loadEntries none bad = [⟨none, .calUncorrectable, none, 0⟩] ∧ damagedEntries bad = [⟨none, .journalDamaged, none, 1⟩]
      ∧ interruptedEntries .power open' = [⟨none, .powerInterrupted, some .a, 0⟩] := by decide +kernel

/-- A snapshot of line A. -/
def snap (st : LineState) (d : Delivery) (written : Bool) : Snapshot := ⟨st, d, 4210553017 + d.counts.g, 0, written⟩

/-- A SALE in RECORDING under a number. -/
def numbered (n : Nat) : Delivery := { withG sale 1 with ticketNumber := some n, ticket := some (List.replicate 138 0) }

/-- RecoveryMakesTickets: two open SALEs, the next number as stored. -/
theorem witness_recovery_open :
    let s := stoppedWith (snap .flowing (withG sale 1) false) (snap .armed (withG sale 1) false)
    s.restart.phase = .stopped ∧ s.inputs.powerFail = false ∧ s.inputs.reset = false ∧ NextAfterLoad s.store 1
      ∧ openWith (s.store.snapshots.get .a) .sale ∧ openWith (s.store.snapshots.get .b) .sale := by
  refine ⟨by decide +kernel, by decide +kernel, by decide +kernel, ⟨by decide +kernel, ?_, fun k h _ => h⟩, by decide +kernel, by decide +kernel⟩
  intro l m h
  cases l <;> exact absurd h.1 (by decide +kernel)

/-- RecoveryMakesTickets: a SALE in RECORDING whose number 7 the journal does not hold, and an open TEST. -/
theorem witness_recovery_unheld :
    let s := stoppedWith (snap .recording (numbered 7) false) (snap .settling (withG test 1) false)
    s.restart.phase = .stopped ∧ NextAfterLoad s.store 8 ∧ unheld s.store (s.store.snapshots.get .a) 7
      ∧ (s.store.snapshots.get .a).delivery.ticket = some (List.replicate 138 0) ∧ openWith (s.store.snapshots.get .b) .test := by
  have held : ¬ ((stoppedWith (snap .recording (numbered 7) false) (snap .settling (withG test 1) false)).store.header.oldestNumber ≤ 7
      ∧ 7 < (stoppedWith (snap .recording (numbered 7) false) (snap .settling (withG test 1) false)).store.header.oldestNumber
        + (stoppedWith (snap .recording (numbered 7) false) (snap .settling (withG test 1) false)).store.header.count) := by
    decide +kernel
  refine ⟨by decide +kernel, ⟨by decide +kernel, ?_, ?_⟩, ⟨rfl, rfl, rfl, held⟩, rfl, by decide +kernel⟩
  · intro l m h
    cases l
    · have e : (7 : Nat) = m := Option.some.inj h.2.2.1
      omega
    · exact absurd h.1 (by decide +kernel)
  · intro k _ h
    exact h .a 7 ⟨rfl, rfl, rfl, held⟩

/-- RecoveryMakesTickets: a TEST in RECORDING not written, and a snapshot that is owed nothing. -/
theorem witness_recovery_test :
    let s := stoppedWith (snap .recording { withG test 1 with testRun := some run } false) manufacturedSnapshot
    s.restart.phase = .stopped ∧ NextAfterLoad s.store 1 ∧ (s.store.snapshots.get .a).state = .recording
      ∧ (s.store.snapshots.get .a).delivery.mode = some .test ∧ (s.store.snapshots.get .a).written = false
      ∧ (s.store.snapshots.get .a).delivery.testRun = some run ∧ (s.store.snapshots.get .b).state = .idle := by
  refine ⟨by decide +kernel, ⟨by decide +kernel, ?_, fun k h _ => h⟩, by decide +kernel, by decide +kernel, by decide +kernel,
    by decide +kernel, by decide +kernel⟩
  intro l m h
  cases l
  · exact absurd h.2.1 (by decide +kernel)
  · exact absurd h.1 (by decide +kernel)

/-- RecoveryMakesTickets: the other snapshots that are owed nothing: a SALE whose number the journal holds and a TEST written. -/
theorem witness_recovery_none :
    let s := stoppedWith (snap .recording (numbered 7) false) (snap .recording { withG test 1 with testRun := some run } true)
    let st := { s.store with header := ⟨0, 1, 7, 0⟩ }
    (∀ n, ¬ unheld st (st.snapshots.get .a) n) ∧ (st.snapshots.get .b).written = true
      ∧ (snap .armed sale false).state ≠ .recording ∧ sale.counts.g = 0 := by
  refine ⟨?_, by decide +kernel, by decide +kernel, by decide +kernel⟩
  intro n h
  have e : (7 : Nat) = n := Option.some.inj h.2.2.1
  subst e
  exact h.2.2.2 (by decide +kernel)

/-- StartUpEndsInRunning: STARTING with no unit left but the fault log's and nothing transmitted, and with a unit left. -/
theorem witness_start_up_end :
    let s := { inPhase ready .starting .idle with links := State.manufactured.links }
    s.restart.phase = .starting ∧ (∀ u ∈ s.engine.queue, u = .faultLog) ∧ (∀ x, s.engine.inFlight = some x → x.unit = .faultLog)
      ∧ (∀ link, (s.front link).sending = none)
      ∧ (∃ x, (flying (inPhase ready .starting .idle) (.restartUpdate 1 0)).engine.inFlight = some x ∧ x.unit ≠ .faultLog) := by
  refine ⟨by decide +kernel, by decide +kernel, ?_, ?_, ⟨_, rfl, by decide +kernel⟩⟩
  · intro x h
    cases h
  · intro link
    cases link <;> decide +kernel

/-! ### Arithmetic -/

/-- StopTargetIsLeast: a TEST, a NET SALE, and the ends of the ranges. -/
theorem witness_targets : test.mode = some .test ∧ sale.mode ≠ some .test ∧ sale.latched.product.basis = .net ∧ 0 < sale.corr.runVcf
    ∧ (1 : Nat) ≤ 1 ∧ 9999999 ≤ 9999999 ∧ 900000 ≤ sale.corr.runVcf ∧ sale.corr.runVcf ≤ 1100000 := by decide +kernel

/-- AverageAndVcfAreRounded: Gs above 0 with W within its range, and Gs 0. -/
theorem witness_average : (0 : Nat) < 1 ∧ 0 < earlyEnd.counts.gs ∧ -4000 * (earlyEnd.counts.gs : Int) ≤ earlyEnd.corr.w
    ∧ earlyEnd.corr.w ≤ 6000 * (earlyEnd.counts.gs : Int) ∧ sale.counts.gs = 0 := by decide +kernel

/-- DeliveryIsFinished: an order, the counts, times and temperature in their ranges, a plan and none, a number, a record of 138
bytes. -/
theorem witness_finished : earlyEnd.latched.order = some order ∧ earlyEnd.preset.loadedTop < 2 ^ 32 ∧ earlyEnd.armTime.getD 0 < 2 ^ 32
    ∧ earlyEnd.endTime.getD 0 < 2 ^ 32 ∧ -4000 ≤ earlyEnd.average ∧ earlyEnd.average ≤ 6000 ∧ earlyEnd.identity.counter < 2 ^ 32
    ∧ (numbered 4294967295).latched.order = some order ∧ (numbered 4294967295).counts.g < 10 ^ 17
    ∧ (numbered 4294967295).openTot < 10 ^ 15 ∧ (numbered 4294967295).closeTot < 10 ^ 15
    ∧ (numbered 4294967295).ticketNumber = some 4294967295 ∧ 4294967295 < 2 ^ 32 ∧ sale.latched.plan = some ⟨1, tiers⟩
    ∧ tiers.length ≤ 8 ∧ order.taxRate.toNat ≤ 5000 ∧ (∀ t ∈ tiers, t.price.toNat ≤ 99999 ∧ t.charge.toNat ≤ 999999)
    ∧ test.latched.plan = none ∧ (List.replicate 138 (0 : Byte)).length = 138 ∧ 103 < 134 := by decide +kernel

/-- PricingByTier: a plan with tiers, and the largest quantity and rate. -/
theorem witness_pricing : tiers ≠ [] ∧ 9999999 ≤ 9999999 ∧ (priceOf ⟨1, tiers⟩ 5000 9999999).price ≤ 99999
    ∧ (priceOf ⟨1, tiers⟩ 5000 9999999).charge ≤ 999999 ∧ 5000 ≤ 5000 := by decide +kernel

/-! ### The whole part -/

/-- OutputsFollowTheState and StoreAndTotalsAreNotCommanded: a command that writes no store, a request, a line not IDLE. -/
theorem witness_outputs : (∃ t, exec .clockSecond ready = .next t) ∧ (∃ t, exec (.readStatus .cab []) (onA .flowing sale) = .next t)
    ∧ writesStore .clockSecond = false ∧ isRequest (.readStatus .cab []) = true ∧ ((onA .flowing sale).line .a).state ≠ .idle :=
  ⟨next_of_gives (by decide +kernel), next_of_gives (by decide +kernel), rfl, rfl, by decide +kernel⟩

/-- BodiesReadBackAsWritten: each layout at the end of its ranges. -/
theorem witness_bodies :
    let o : OrderCopy := ⟨0xFFFFFFFF, List.replicate 10 126, 0xFFFFFF, .p3, .volume, 9999999, none, 5000⟩
    let f : OrderCopy := { o with kind := .fill, amount := 0 }
    o.orderId ≠ 0 ∧ 1 ≤ o.account.length ∧ o.account.length ≤ 10 ∧ (∀ c ∈ o.account, 32 ≤ c.toNat ∧ c.toNat ≤ 126)
      ∧ o.taxRate.toNat ≤ 5000 ∧ 1 ≤ o.amount.toNat ∧ o.amount.toNat ≤ 9999999 ∧ f.amount = 0 ∧ (tiers ++ tiers).length ≤ 8
      ∧ (∀ t ∈ tiers, t.bound.all (fun b => 1 ≤ b.toNat && b.toNat ≤ 99999) = true ∧ t.price.toNat ≤ 99999 ∧ t.charge.toNat ≤ 999999)
      ∧ (List.replicate 12 (32 : Byte)).length ≤ 12 ∧ (99999 : BitVec 24).toNat ≤ 99999 ∧ 5 ≤ (5 : BitVec 8).toNat
      ∧ (120 : BitVec 8).toNat ≤ 120 ∧ recordInRange (.line .a lineRec) = true ∧ 4294967295 < 4294967296 := by
  intro o f
  refine ⟨?_, ?_, ?_, ?_, ?_, ?_, ?_, ?_, ?_, ?_, ?_, ?_, ?_, ?_, ?_, ?_⟩ <;> decide +kernel

/-- A part in the middle of a delivery, with a pulse waiting. -/
def midway : State := { onA .flowing (withG sale 40092) with pending := [.pickup1Pulse .a] }

theorem countsOk_of {d : Delivery} (h : (decide (d.counts.g < grossWrap) && decide (d.counts.gp < grossWrap)
    && decide (d.counts.gs < grossWrap) && decide (d.counts.g = (d.counts.gs + d.counts.gp) % grossWrap)
    && decide (d.counts.framePos ≤ 16) && decide (d.counts.nA ≤ 65535) && decide (d.counts.nB ≤ 65535)
    && decide (d.counts.strikes ≤ 2) && decide (d.counts.creep ≤ 65535) && decide (900000 ≤ d.corr.runVcf)
    && decide (d.corr.runVcf ≤ 1100000)) = true) : CountsOk d := by
  simp only [Bool.and_eq_true, decide_eq_true_eq] at h
  obtain ⟨⟨⟨⟨⟨⟨⟨⟨⟨⟨h1, h2⟩, h3⟩, h4⟩, h5⟩, h6⟩, h7⟩, h8⟩, h9⟩, h10⟩, h11⟩ := h
  exact ⟨⟨h1, h2, h3⟩, h4, h5, ⟨h6, h7⟩, ⟨h8, h9⟩, ⟨h10, h11⟩⟩

/-- MeteringInvariantIsKept: a state in the middle of a delivery has the invariant, and its step answers a next state. -/
theorem witness_metering : MeterInv midway ∧ ∃ t, step midway = .next t := by
  refine ⟨⟨fun l => ?_, fun l => ?_, fun l => ?_⟩, next_of_gives (by decide +kernel)⟩
  · cases l <;>
      refine ⟨countsOk_of (by decide +kernel), by decide +kernel, by decide +kernel, by decide +kernel, by decide +kernel, ?_, ?_⟩ <;>
      unfold balances <;> decide +kernel
  · cases l <;> refine ⟨countsOk_of (by decide +kernel), by decide +kernel, ?_, ?_⟩ <;> unfold balances <;> decide +kernel
  · cases l <;> refine ⟨countsOk_of (by decide +kernel), by decide +kernel, ?_, ?_⟩ <;> unfold balances <;> decide +kernel

/-- BufferInvariantIsKept: the same of the queues and counters. -/
theorem witness_buffers : BuffersInv midway ∧ ∃ t, step midway = .next t := by
  refine ⟨⟨fun link => ?_, ⟨?_, ?_, ?_, ?_, ?_⟩, ?_, ?_, ?_, ?_, ?_, ?_, fun u hu => ?_, ⟨?_, ?_, ?_⟩, ?_⟩, next_of_gives (by decide +kernel)⟩
  · cases link <;> refine ⟨?_, ?_, ?_, ?_, ?_⟩ <;> decide +kernel
  on_goal 12 =>
    rcases hu with hu | ⟨f, hf, _⟩
    · cases hu
    · cases hf
  all_goals decide +kernel

end Sys2Proof.Tests
end

section
/-! PROOF. The trim of a band and the PICKUP2 pulse. -/

namespace Sys2Proof.Safety

open Sys2Proof.Machine

/-! ## The trim of a band (R4) -/

/-- floor(p × T / 16) grows by at most 1 from one position to the next, and by 1 just where R4 puts an extra quantum. -/
theorem increment_succ_add_floor (f : Factor) (p : Nat) (ht : f.t.toNat ≤ 15) :
    increment f (p + 1) + p * f.t.toNat / 16 = f.b.toNat + (p + 1) * f.t.toNat / 16 := by
  have hsucc : (p + 1) * f.t.toNat = p * f.t.toNat + f.t.toNat := Nat.succ_mul _ _
  rw [increment, Nat.add_sub_cancel]
  split <;> omega

/-- The first p positions of a frame carry p times B and floor(p × T / 16) extra quanta. -/
theorem sum_increment (f : Factor) (ht : f.t.toNat ≤ 15) (p : Nat) :
    ((List.range p).map (fun i => increment f (i + 1))).sum = p * f.b.toNat + p * f.t.toNat / 16 := by
  induction p with
  | zero => simp
  | succ p ih =>
    have hnext := increment_succ_add_floor f p ht
    have hbase : (p + 1) * f.b.toNat = p * f.b.toNat + f.b.toNat := Nat.succ_mul _ _
    rw [List.sum_range_succ, ih]
    omega

/-- Position 1 carries no extra quantum, since T is below 16. -/
theorem increment_one (f : Factor) (ht : f.t.toNat ≤ 15) : increment f 1 = f.b.toNat := by
  have hfloor : 1 * f.t.toNat / 16 = 0 := by omega
  simp only [increment, hfloor, Nat.not_lt_zero, if_false, Nat.add_zero]

theorem increment_of_t_zero (f : Factor) (ht : f.t = 0) (p : Nat) : increment f p = f.b.toNat := by
  simp [increment, ht]

/-- An increment is B or B + 1. -/
theorem increment_bounds (f : Factor) (p : Nat) : f.b.toNat ≤ increment f p ∧ increment f p ≤ f.b.toNat + 1 := by
  rw [increment]
  split <;> omega

/-- Settles O28: the sum over a prefix telescopes, because each position carries the growth of floor(p × T / 16). -/
theorem trimSpreadsOverFrame : Obligations.TrimSpreadsOverFrame := by
  intro f ht hb
  refine ⟨fun p => rfl, fun p _ => sum_increment f ht p, increment_one f ht, ?_, increment_of_t_zero f, fun p => ?_⟩
  · rw [sum_increment f ht 16, Nat.mul_div_cancel_left _ (by decide)]
  · obtain ⟨hlow, hhigh⟩ := increment_bounds f p
    have hword : f.b.toNat < 2 ^ 16 := f.b.isLt
    exact ⟨hb.trans hlow, by omega⟩

/-! ## PICKUP2 (R13) -/

/-- What a PICKUP2 pulse does to a delivery record. -/
theorem countB_eq (d : Delivery) :
    d.countB = { d with counts := { d.counts with nB := min 65535 (d.counts.nB + 1) } } := by
  rw [Delivery.countB, bump_eq, countLimit]

/-- What a PICKUP2 pulse does to the part, in every phase and line state. -/
theorem exec_pickup2Pulse (l : LineId) (s : State) :
    exec (.pickup2Pulse l) s =
      .next (if s.restart.phase = .running ∧ (s.line l).state = .flowing
        then s.setDelivery l (s.line l).delivery.countB else s).drive := by
  change execPickup2Pulse l s = _
  rw [execPickup2Pulse, event_next]
  by_cases h : s.restart.phase = .running ∧ (s.line l).state = .flowing
  · simp [State.taking, h, Work.mapDelivery, Work.mapSt]
  · simp [State.taking, h]

/-- Settles O32: in RUNNING the line state decides whether nB takes the pulse; the rest of the part stays. -/
theorem secondPickupCountsInFlowing : Obligations.SecondPickupCountsInFlowing := by
  intro l s hrun
  refine ⟨fun hflow => ?_, fun hother => ?_⟩
  · rw [exec_pickup2Pulse, if_pos ⟨hrun, hflow⟩, countB_eq]
    rfl
  · rw [exec_pickup2Pulse, if_neg fun h => hother h.2]

end Sys2Proof.Safety
end

section
/-! PROOF. The stop and slow-down targets of a delivery. -/

namespace Sys2Proof.Safety

open Sys2Proof.Machine

/-! ## The targets (R81, R82) -/

theorem ceilDiv_le_iff {n d : Nat} (hd : 0 < d) (g : Nat) : Machine.ceilDiv n d ≤ g ↔ n ≤ g * d := by
  change n ⌈/⌉ d ≤ g ↔ _
  rw [ceilDiv_le_iff_le_mul hd, Nat.mul_comm]

/-- The preset total P (R81 step 1). -/
theorem presetTotal_eq (d : Delivery) (top : Nat) :
    d.presetTotal top = if d.preset.kind = some .fill then 9999999 else d.preset.amount.getD 0 + top := by
  rw [Delivery.presetTotal]
  split
  next hfill => rw [if_pos hfill, capacity]
  next hother => rw [if_neg hother]

theorem targetBasis_eq_gross {d : Delivery} (h : d.mode = some .test ∨ d.latched.product.basis = .gross) :
    d.targetBasis = .gross := by
  rw [Delivery.targetBasis]
  split
  next => rfl
  next hmode => exact h.resolve_left hmode

theorem targetBasis_eq_latched {d : Delivery} (h : d.mode ≠ some .test) : d.targetBasis = d.latched.product.basis := by
  rw [Delivery.targetBasis]
  split
  next hmode => exact absurd hmode h
  next => rfl

theorem stopFor_of_gross {d : Delivery} (h : d.targetBasis = .gross) (top : Nat) :
    d.stopFor top = d.presetTotal top * 1000 := by
  rw [Delivery.stopFor, h]

/-- On the NET basis S lies at or below just those counts that bill the preset at the running VCF. -/
theorem stopFor_le_iff_of_net {d : Delivery} (h : d.targetBasis = .net) (hvcf : 0 < d.corr.runVcf) (top g : Nat) :
    d.stopFor top ≤ g ↔ d.presetTotal top * 1000000000 ≤ g * d.corr.runVcf := by
  rw [Delivery.stopFor, h]
  exact ceilDiv_le_iff hvcf g

/-- The ends of the range of S are the least preset at the largest running VCF and the capacity at the smallest. -/
theorem stopFor_range {d : Delivery} {top : Nat} (hlow : 1 ≤ d.presetTotal top) (hhigh : d.presetTotal top ≤ 9999999)
    (hvlow : 900000 ≤ d.corr.runVcf) (hvhigh : d.corr.runVcf ≤ 1100000) :
    910 ≤ d.stopFor top ∧ d.stopFor top ≤ 11111110000 := by
  cases hbasis : d.targetBasis with
  | gross =>
    rw [stopFor_of_gross hbasis]
    omega
  | net =>
    have hle := stopFor_le_iff_of_net hbasis (by omega) top
    constructor
    · have hbills : d.presetTotal top * 1000000000 ≤ d.stopFor top * d.corr.runVcf := (hle _).mp le_rfl
      have hlargest : d.stopFor top * d.corr.runVcf ≤ d.stopFor top * 1100000 := Nat.mul_le_mul_left _ hvhigh
      omega
    · rw [hle]
      calc d.presetTotal top * 1000000000 ≤ 9999999 * 1000000000 := Nat.mul_le_mul_right _ hhigh
        _ = 11111110000 * 900000 := by norm_num
        _ ≤ 11111110000 * d.corr.runVcf := Nat.mul_le_mul_left _ hvlow

/-- Settles O51: on the NET basis the two halves of "least" are the two directions of `stopFor_le_iff_of_net`. -/
theorem stopTargetIsLeast : Obligations.StopTargetIsLeast := by
  intro d top
  rw [← presetTotal_eq d top]
  refine ⟨fun h => stopFor_of_gross (targetBasis_eq_gross h) top, fun hmode hnet hvcf => ?_, rfl, stopFor_range⟩
  have hle := stopFor_le_iff_of_net ((targetBasis_eq_latched hmode).trans hnet) hvcf top
  exact ⟨(hle _).mp le_rfl, fun g => (hle g).mpr⟩

end Sys2Proof.Safety
end

section
/-! PROOF. The price part of a ticket. -/

namespace Sys2Proof.Safety

open Sys2Proof.Machine

/-! ## Tier selection (R119) -/

/-- An OPEN tier takes every quantity, since there is no bound to exceed. -/
theorem tierQualifies_iff (t : Tier) (q : Nat) :
    tierQualifies t q = true ↔ ∀ b, t.bound = some b → q ≤ b.toNat * 100 := by
  rw [tierQualifies]
  split
  next hopen => simp [hopen]
  next bound hbound => simp [hbound]

/-- Only a tier with another after it is judged by its bound. -/
theorem selectTier_cons (q : Nat) (t : Tier) {ts : List Tier} (hts : ts ≠ []) (n : Nat) :
    selectTier q (t :: ts) n = if tierQualifies t q = true then (n, t) else selectTier q ts (n + 1) := by
  cases ts with
  | nil => exact absurd rfl hts
  | cons u us => rfl

/-- A tier that qualifies is taken, the last one too. -/
theorem selectTier_of_qualifies {t : Tier} {q : Nat} (h : tierQualifies t q = true) (ts : List Tier) (n : Nat) :
    selectTier q (t :: ts) n = (n, t) := by
  cases ts with
  | nil => rfl
  | cons u us => rw [selectTier_cons q t (List.cons_ne_nil u us), if_pos h]

/-- Tier selection answers the tier at an index i of the plan, numbered i above the first, that no tier before it forestalls. -/
theorem selectTier_spec (q : Nat) (ts : List Tier) (hts : ts ≠ []) (n : Nat) :
    ∃ i t, ts[i]? = some t ∧ selectTier q ts n = (n + i, t) ∧
      (∀ j u, j < i → ts[j]? = some u → ¬ tierQualifies u q = true) ∧ (tierQualifies t q = true ∨ i + 1 = ts.length) := by
  induction ts generalizing n with
  | nil => exact absurd rfl hts
  | cons t ts ih =>
    by_cases htakes : tierQualifies t q = true
    · exact ⟨0, t, rfl, selectTier_of_qualifies htakes ts n, fun j u hj => absurd hj j.not_lt_zero, .inl htakes⟩
    by_cases hlast : ts = []
    · subst hlast
      exact ⟨0, t, rfl, rfl, fun j u hj => absurd hj j.not_lt_zero, .inr rfl⟩
    obtain ⟨i, v, hv, hselect, hbefore, hend⟩ := ih hlast (n + 1)
    refine ⟨i + 1, v, hv, ?_, fun j u hj hu => ?_, hend.imp_right (congrArg (· + 1))⟩
    · rw [selectTier_cons q t hlast, if_neg htakes, hselect, Nat.add_right_comm, Nat.add_assoc]
    · cases j with
      | zero => exact Option.some.inj hu ▸ htakes
      | succ j => exact hbefore j u (Nat.lt_of_succ_lt_succ hj) hu

/-! ## Amounts rounded half up (R120 to R122) -/

/-- Half up: the result v is the whole number with v ≤ n / d + 1/2 < v + 1. -/
theorem roundHalfUp_spec (n : Nat) {d : Nat} (hd : 0 < d) :
    2 * d * roundHalfUp n d ≤ 2 * n + d ∧ 2 * n + d < 2 * d * (roundHalfUp n d + 1) :=
  ⟨Nat.mul_div_le _ _, Nat.lt_mul_div_succ _ (by omega)⟩

theorem roundHalfUp_mono {n m : Nat} (h : n ≤ m) (d : Nat) : roundHalfUp n d ≤ roundHalfUp m d :=
  Nat.div_le_div_right (by omega)

/-- The largest amount for the quantity is that of the capacity at the highest unit price. -/
theorem amount_le {q u : Nat} (hq : q ≤ 9999999) (hu : u ≤ 99999) : roundHalfUp (q * u) 10000 ≤ 99998990 :=
  roundHalfUp_mono (Nat.mul_le_mul hq hu) 10000

/-- The largest tax is that of the largest subtotal at the highest rate. -/
theorem tax_le {subtotal r : Nat} (hs : subtotal ≤ 100998989) (hr : r ≤ 5000) :
    roundHalfUp (subtotal * r) 10000 ≤ 50499495 :=
  roundHalfUp_mono (Nat.mul_le_mul hs hr) 10000

/-- Settles O54: the tier is that of `selectTier_spec`, and the sums are rounded by `roundHalfUp`, which is monotone. -/
theorem pricingByTier : Obligations.PricingByTier := by
  intro p r q hp x takes rounded
  have hsubtotal : x.subtotal = roundHalfUp (q * x.price) 10000 + x.charge := rfl
  have htax : x.tax = roundHalfUp (x.subtotal * r) 10000 := rfl
  have htotal : x.total = x.subtotal + x.tax := rfl
  refine ⟨?_, ?_, ?_, ?_, htotal, rfl, rfl, fun hq hu hf hr => ?_⟩
  · obtain ⟨i, t, hi, hselect, hbefore, hend⟩ := selectTier_spec q p.tiers hp 1
    refine ⟨i, t, hi, ?_, congrArg (·.2.price.toNat) hselect, congrArg (·.2.charge.toNat) hselect,
      fun j u hj hu => (hbefore j u hj hu).imp (tierQualifies_iff u q).mpr, hend.imp_left (tierQualifies_iff t q).mp⟩
    exact (congrArg Prod.fst hselect).trans (Nat.add_comm 1 i)
  · omega
  · rw [hsubtotal, Nat.add_sub_cancel]
    exact roundHalfUp_spec _ (d := 10000) (by decide)
  · rw [htax]
    exact roundHalfUp_spec _ (d := 10000) (by decide)
  · have hamount := amount_le hq hu
    have hlargest : x.subtotal ≤ 100998989 := by omega
    have htaxed := tax_le hlargest hr
    omega

end Sys2Proof.Safety
end

section
/-! PROOF. What the controllers' work can change: a property of the part that survives the few elementary changes survives
every operation built from them. -/

namespace Sys2Proof.Safety

open Sys2Proof.Machine

/-- A property of the part that survives the elementary changes of the controllers' work: lines, the calibration unit, the
order slots, a journal with the same pending recovery and no more TRANSFERRED than held, an entry of the fault log, a unit
handed to the engine. -/
structure Stable (P : State → Prop) : Prop where
  lines : ∀ s x, P s → P { s with lines := x }
  cal : ∀ s x, P s → P { s with cal := x }
  slots : ∀ s x, P s → P { s with orders := { s.orders with slots := x } }
  journal : ∀ s j, j.pendingRecovery = s.journal.pendingRecovery →
    (s.journal.header.transferred ≤ s.journal.header.count → j.header.transferred ≤ j.header.count) →
    P s → P { s with journal := j }
  log : ∀ s e, P s → P (s.logFault e)
  hand : ∀ s u, UnitOk u → P s → P (s.hand u)

theorem foldl_keeps {P : State → Prop} {α : Type} {f : Work → α → Work} (hf : ∀ w a, P w.st → P (f w a).st) :
    ∀ (xs : List α) {w : Work}, P w.st → P (xs.foldl f w).st
  | [], _, h => h
  | x :: xs, _, h => foldl_keeps hf xs (hf _ x h)

section
variable {P : State → Prop} (hP : Stable P) {w : Work}
include hP

/-! ## Changes of line state -/

theorem Stable.setLine {l : LineId} {ln : Line} (h : P w.st) : P (w.setLine l ln).st := hP.lines _ _ h

theorem Stable.mapDelivery {l : LineId} {f : Delivery → Delivery} (h : P w.st) : P (w.mapDelivery l f).st := hP.lines _ _ h

theorem Stable.changeState {l : LineId} {new : LineState} {nothing : Bool} (h : P w.st) :
    P (w.changeState l new nothing).st := by
  unfold Work.changeState
  split
  · exact h
  · exact hP.lines _ _ h

theorem Stable.pauseLine {l : LineId} {c : PauseCause} (h : P w.st) : P (w.pauseLine l c).st :=
  hP.changeState (hP.mapDelivery h)

theorem Stable.haltLine {l : LineId} {c : HaltCause} (h : P w.st) : P (w.haltLine l c).st :=
  hP.changeState (hP.mapDelivery h)

theorem Stable.settleLine {l : LineId} {c : EndCause} (h : P w.st) : P (w.settleLine l c).st :=
  hP.changeState (hP.mapDelivery h)

theorem Stable.loadAndGo {l : LineId} (h : P w.st) : P (w.loadAndGo l).st := by
  unfold Work.loadAndGo
  dsimp only
  split
  · exact hP.settleLine (hP.mapDelivery h)
  · exact hP.changeState (hP.mapDelivery (hP.mapDelivery h))

theorem Stable.fault {c : FaultCode} {m : Option LineId} {d : BitVec 32} (h : P w.st) : P (w.fault c m d).st := hP.log _ _ h

/-! ## Slots and reservations -/

theorem Stable.releaseSlot {s : State} {n : SlotNo} (h : P s) : P { s with orders := s.orders.release n } := by
  unfold OrderTable.release
  split
  · exact hP.slots _ _ h
  · exact h

theorem Stable.freeBound {s : State} {n : SlotNo} (h : P s) : P { s with orders := s.orders.freeBound n } := by
  unfold OrderTable.freeBound
  split
  · exact hP.slots _ _ h
  · exact h

theorem Stable.giveBack {s : State} {l : LineId} (h : P s) : P (s.giveBack l) := by
  unfold State.giveBack
  split
  next n _ _ => exact hP.journal { s with orders := s.orders.release n } s.journal.unreserve rfl id (hP.releaseSlot h)
  next => exact h

theorem Stable.freeSlot {s : State} {l : LineId} (h : P s) : P (s.freeSlot l) := by
  unfold State.freeSlot
  split
  next => exact hP.freeBound h
  next => exact h

theorem Stable.release {l : LineId} (h : P w.st) : P (w.release l).st :=
  hP.changeState (hP.mapDelivery (w := w.mapSt _) (hP.giveBack h))

/-! ## The close -/

theorem Stable.probeSample {l : LineId} {raw : BitVec 16} (h : P w.st) : P (w.probeSample l raw).st := by
  unfold Work.probeSample
  dsimp only
  split
  · exact hP.fault (hP.setLine h)
  · exact hP.setLine h

theorem Stable.closeEmpty {l : LineId} (h : P w.st) : P (w.closeEmpty l).st := by
  have hback : P (w.mapSt (fun s => s.giveBack l)).st := hP.giveBack h
  unfold Work.closeEmpty
  dsimp only
  split
  · exact hP.changeState (w := Work.notify _ _ _ _) hback
  · exact hP.changeState hback

theorem Stable.closeSale {l : LineId} (h : P w.st) : P (w.closeSale l).st := by
  have hnumber := hP.journal w.st { w.st.journal with nextNumber := w.st.journal.nextNumber + 1 } rfl id h
  exact hP.hand _ _ trivial (hP.changeState (hP.mapDelivery (w := ⟨_, w.notes⟩) hnumber))

theorem Stable.closeTest {l : LineId} (h : P w.st) : P (w.closeTest l).st := by
  have hchange : P (((w.mapDelivery l (Delivery.finishTest l false)).changeState l .recording false).st) :=
    hP.changeState (hP.mapDelivery h)
  unfold Work.closeTest Work.mapSt
  dsimp only
  split
  · exact hP.hand _ _ trivial hchange
  · exact hchange

theorem Stable.close {l : LineId} {raw : BitVec 16} (h : P w.st) : P (w.close l raw).st := by
  have hsample : P ((w.mapSt (fun s => s.setDelivery l (s.closedRecord l))).probeSample l raw).st :=
    hP.probeSample (hP.lines _ _ h)
  unfold Work.close
  dsimp only
  repeat' split
  · exact hP.closeEmpty hsample
  · exact hP.closeTest hsample
  · exact hP.closeSale hsample

theorem Stable.settleCap {l : LineId} (h : P w.st) : P (w.settleCap l).st := hP.fault (hP.mapDelivery h)

/-! ## Calibration -/

theorem Stable.applyAffected {affected : List RecordId} {l : LineId} (h : P w.st) : P (w.applyAffected affected l).st := by
  unfold Work.applyAffected
  dsimp only
  repeat' split
  · exact h
  iterate 3 exact hP.haltLine h
  iterate 2 exact hP.mapDelivery h
  iterate 3 exact h

theorem Stable.withdrawIdle {l : LineId} (h : P w.st) : P (w.withdrawIdle l).st := by
  unfold Work.withdrawIdle
  split
  · exact hP.changeState h
  · exact h

theorem Stable.restore {l : LineId} (h : P w.st) : P (w.restore l).st := by
  unfold Work.restore
  split
  · exact hP.changeState h
  · exact h

theorem Stable.loadRecord {r : RecordId} (h : P w.st) : P (w.loadRecord r).st := by
  unfold Work.loadRecord
  dsimp only
  split
  · exact hP.cal _ _ h
  · exact hP.fault (w := w.mapSt _) (hP.cal _ _ h)
  · exact hP.fault (w := w.mapSt _) (hP.cal _ _ h)

theorem Stable.loadChecksum {bad : Bool} (h : P w.st) : P (w.loadChecksum bad).st := by
  unfold Work.loadChecksum
  dsimp only
  split
  · exact hP.fault (w := w.mapSt _) (hP.cal _ _ h)
  · exact hP.cal _ _ h

theorem Stable.loadAll (h : P w.st) : P w.loadAll.st :=
  hP.loadChecksum (foldl_keeps (fun _ _ => hP.loadRecord) allRecords h)

theorem Stable.failedSweep {bad : List RecordId} (h : P w.st) : P (w.failedSweep bad).st :=
  hP.withdrawIdle (hP.withdrawIdle (hP.applyAffected (hP.applyAffected (hP.loadAll (hP.fault h)))))

theorem Stable.sweepAll (h : P w.st) : P w.sweepAll.st := by
  unfold Work.sweepAll
  dsimp only
  split
  · exact hP.cal _ _ h
  · exact hP.failedSweep (w := w.mapSt _) (hP.cal _ _ h)

theorem Stable.afterCalibration {r : RecordId} (h : P w.st) : P (w.afterCalibration r).st := by
  unfold Work.afterCalibration
  dsimp only
  split
  · exact hP.restore (hP.restore h)
  · exact hP.restore (hP.restore (hP.applyAffected (hP.applyAffected (hP.withdrawIdle (hP.withdrawIdle h)))))

/-! ## Pulses, inputs and timers -/

theorem Stable.grossPulse {l : LineId} (h : P w.st) : P (w.grossPulse l).st := hP.setLine h

theorem Stable.pickup1 {l : LineId} (h : P w.st) : P (w.pickup1 l).st := by
  unfold Work.pickup1
  split
  · unfold Work.flowPulse
    dsimp only
    split
    · exact hP.settleLine (hP.mapDelivery (hP.grossPulse h))
    · exact hP.mapDelivery (hP.mapDelivery (hP.grossPulse h))
  iterate 2
    · unfold Work.creepPulse
      dsimp only
      split
      · exact hP.fault (hP.haltLine (hP.mapDelivery (hP.grossPulse h)))
      · exact hP.mapDelivery (hP.grossPulse h)
  · exact hP.mapDelivery (hP.grossPulse h)
  · exact hP.setLine (hP.grossPulse h)
  iterate 3
    · unfold Work.unticketedPulse
      dsimp only
      split
      · exact hP.setLine h
      · exact hP.fault (hP.setLine h)

theorem Stable.pauseIfFlowing {l : LineId} {c : PauseCause} (h : P w.st) : P (w.pauseIfFlowing l c).st := by
  unfold Work.pauseIfFlowing
  split
  · exact hP.pauseLine h
  · exact h

theorem Stable.markOpened {l : LineId} (h : P w.st) : P (w.markOpened l).st := by
  unfold Work.markOpened
  split
  · exact hP.mapDelivery h
  · exact h

theorem Stable.expiryJudge {l : LineId} (h : P w.st) : P (w.expiryJudge l).st := by
  unfold Work.expiryJudge
  dsimp only
  repeat' split
  · exact hP.fault (hP.haltLine (hP.mapDelivery h))
  · exact hP.pauseLine (hP.mapDelivery h)
  · exact hP.mapDelivery h

theorem Stable.expiryLoad {l : LineId} (h : P w.st) : P (w.expiryLoad l).st := by
  unfold Work.expiryLoad Work.latchCheck
  dsimp only
  repeat' split
  · exact hP.settleLine (hP.mapDelivery h)
  · exact hP.mapDelivery h
  · exact hP.fault (hP.haltLine (hP.mapDelivery h))

theorem Stable.flowExpiry {l : LineId} {raw : BitVec 16} (h : P w.st) : P (w.flowExpiry l raw).st := by
  have hsample : P ((w.expiryJudge l).probeSample l raw).st := hP.probeSample (hP.expiryJudge h)
  unfold Work.flowExpiry
  dsimp only
  split
  · exact hP.mapDelivery (w := Work.notify _ _ _ _) (hP.expiryLoad hsample)
  · exact hP.mapDelivery (w := Work.notify _ _ _ _) hsample

theorem Stable.finishSaleLine {l : LineId} {n : Nat} (h : P w.st) : P (w.finishSaleLine l n).st :=
  hP.changeState (w := Work.notify _ _ _ _) (hP.freeSlot h)

end

end Sys2Proof.Safety
end

section
/-! PROOF. A property that survives the elementary changes survives every command but those of the engine, the restart and
the damages: the owners of the requests and the events. -/

namespace Sys2Proof.Safety

open Sys2Proof.Machine

/-- A stable property that an owner's work keeps (R188): besides what `Stable` lists, a lost-notice count given, a plan of at
most 8 tiers, the arrival counter, the device time within its range, and a cleared fault log. -/
structure Serves (P : State → Prop) : Prop extends Stable P where
  lost : ∀ s link, P s → P (s.giveLost link)
  plan : ∀ s n ts, ts.length ≤ 8 → P s → P (s.setPlan n ts)
  counter : ∀ s, P s → P { s with orders := { s.orders with counter := nextSequence s.orders.counter } }
  clock : ∀ s t b, t < 4294967296 → P s → P { s with restart := { s.restart with time := t, clockValid := b } }
  cleared : ∀ s, P s → P s.clearFaults

/-- What an event of a link changes of its front (R187, R189, R191): the receiver, a frame handed over, a request pending, the
end of a transmission. -/
inductive FrontStep (ph : Phase) (f : LinkFront) : LinkFront → Prop
  | rx (r : Receiver) : FrontStep ph f { f with rx := r }
  | place (x : TxFrame) : FrontStep ph f (f.place ph x)
  | ask (k : RequestKind) (body : List Byte) : ph = .running → FrontStep ph f { f with request := some (k, body) }
  | transmitted : ph = .running → FrontStep ph f f.transmitted

/-- A property that survives also the steps of a link front, and a change of outputs and of inputs with the ESTOP hold. -/
structure Survives (P : State → Prop) : Prop extends Serves P where
  front : ∀ s link f, FrontStep s.restart.phase (s.front link) f → P s → P (s.setFront link f)
  outputs : ∀ s a b, P s → P { s with pump := a, dlvFault := b }
  inputs : ∀ s i h, P s → P { s with inputs := i, estopHold := h }

/-! ## Numbers in a body -/

theorem beNat_foldl_lt (bs : List Byte) (acc : Nat) :
    bs.foldl (fun acc b => acc * 256 + b.toNat) acc < (acc + 1) * 256 ^ bs.length := by
  induction bs generalizing acc with
  | nil => simp
  | cons b bs ih =>
    have hb : b.toNat < 256 := b.isLt
    calc (b :: bs).foldl (fun acc b => acc * 256 + b.toNat) acc < (acc * 256 + b.toNat + 1) * 256 ^ bs.length := ih _
      _ ≤ ((acc + 1) * 256) * 256 ^ bs.length := Nat.mul_le_mul_right _ (by omega)
      _ = (acc + 1) * 256 ^ (b :: bs).length := by rw [List.length_cons, Nat.pow_succ, Nat.mul_assoc, Nat.mul_comm 256]

/-- A field of n bytes is below 256 ^ n (R195). -/
theorem field_lt (body : List Byte) (off n : Nat) : field body off n < 256 ^ n := by
  have h := beNat_foldl_lt ((body.drop off).take n) 0
  have hlen : 256 ^ ((body.drop off).take n).length ≤ 256 ^ n := Nat.pow_le_pow_right (by decide) (by simp)
  simp only [Nat.zero_add, Nat.one_mul] at h
  exact h.trans_le hlen

theorem parseNumber32_lt {body : List Byte} {t : Nat} (h : parseNumber32 body = some t) : t < 4294967296 := by
  unfold parseNumber32 at h
  split at h
  · cases h
    exact field_lt body 0 4
  · cases h

theorem parseTiers_length {n : Nat} {bs : List Byte} {ts : List Tier} (h : parseTiers n bs = some ts) : ts.length = n := by
  induction n generalizing bs ts with
  | zero => cases h; rfl
  | succ n ih =>
    unfold parseTiers at h
    split at h
    next t us _ hus =>
      cases h
      rw [List.length_cons, ih hus]
    next => cases h

theorem parseWritePlan_length {body : List Byte} {n : PlanNo} {ts : List Tier}
    (h : parseWritePlan body = some (n, ts)) : ts.length ≤ 8 := by
  unfold parseWritePlan at h
  dsimp only at h
  split at h
  · split at h
    · cases h
    next hcount =>
      obtain ⟨us, hus, heq⟩ := Option.map_eq_some_iff.mp h
      cases heq
      rw [parseTiers_length hus]
      omega
  · cases h

/-! ## The journal's places -/

/-- A granted place leaves no more entries TRANSFERRED than held (R130). -/
theorem grant_transferred {j k : Journal} (h : j.grant = some k) (hj : j.header.transferred ≤ j.header.count) :
    k.header.transferred ≤ k.header.count := by
  unfold Journal.grant at h
  split at h
  · cases h
  · split at h
    · cases h; exact hj
    · split at h
      · cases h
        exact Nat.sub_le_sub_right hj 1
      · cases h

theorem grant_pendingRecovery {j k : Journal} (h : j.grant = some k) : k.pendingRecovery = j.pendingRecovery := by
  unfold Journal.grant at h
  split at h
  · cases h
  · split at h
    · cases h; rfl
    · split at h
      · cases h; rfl
      · cases h

/-- What is TRANSFERRED after an acknowledgement within the journal is held (R135). -/
theorem acked_le {h : JournalHeader} {n : Nat} (hn : ¬ h.beyond n = true) (ht : h.transferred ≤ h.count) :
    h.acked n ≤ h.count := by
  have hacked : h.acked n ≤ max h.transferred (n - h.oldestNumber + 1) := by
    unfold JournalHeader.acked
    split <;> omega
  by_cases hc : h.count = 0
  · have hzero : n = 0 := by simpa [JournalHeader.beyond, JournalHeader.newest?, hc] using hn
    simp [JournalHeader.acked, hzero, ht]
  · have hnewest : n ≤ h.oldestNumber + h.count - 1 := by
      simpa [JournalHeader.beyond, JournalHeader.newest?, hc] using hn
    omega

/-! ## The owners that only read -/

theorem ownReadOrders_work (body : List Byte) (w : Work) : (ownReadOrders body w).2 = w := by
  unfold ownReadOrders
  split <;> rfl

theorem ownReadPlan_work (body : List Byte) (w : Work) : (ownReadPlan body w).2 = w := by
  unfold ownReadPlan
  split <;> rfl

theorem ownReadTicket_work (body : List Byte) (w : Work) : (ownReadTicket body w).2 = w := by
  unfold ownReadTicket
  repeat' split
  all_goals rfl

theorem ownReadFaultLog_work (body : List Byte) (w : Work) : (ownReadFaultLog body w).2 = w := by
  unfold ownReadFaultLog
  split <;> rfl

theorem ownReadTotals_work (body : List Byte) (w : Work) : (ownReadTotals body w).2 = w := by
  unfold ownReadTotals
  split <;> rfl

theorem ownReadAudit_work (body : List Byte) (w : Work) : (ownReadAudit body w).2 = w := by
  unfold ownReadAudit
  split <;> rfl

theorem ownSearchOrder_work (body : List Byte) (w : Work) : (ownSearchOrder body w).2 = w := by
  unfold ownSearchOrder
  split <;> rfl

theorem ownReadRecord_work (body : List Byte) (w : Work) : (ownReadRecord body w).2 = w := by
  unfold ownReadRecord
  split <;> rfl

theorem ownReadChecksum_work (body : List Byte) (w : Work) : (ownReadChecksum body w).2 = w := by
  unfold ownReadChecksum
  split <;> rfl

section
variable {P : State → Prop} (hP : Serves P) {w : Work}
include hP

/-! ## The owners of the requests -/

theorem Serves.ownLoadOrder {body : List Byte} (h : P w.st) : P (ownLoadOrder body w).2.st := by
  unfold Machine.ownLoadOrder
  split
  · exact h
  · split
    · exact h
    · split
      · exact h
      next n _ => exact hP.slots _ (w.st.orders.slots.set n.val _ n.isLt) (hP.counter _ h)

theorem Serves.ownWithdrawOrder {body : List Byte} (h : P w.st) : P (ownWithdrawOrder body w).2.st := by
  unfold Machine.ownWithdrawOrder
  repeat' split
  · exact h
  · exact h
  · exact h
  · exact hP.slots _ _ h

theorem Serves.ownWritePlan {body : List Byte} (h : P w.st) : P (ownWritePlan body w).2.st := by
  unfold Machine.ownWritePlan
  split
  · exact h
  next n ts hparse =>
    split
    · exact hP.plan _ _ _ (parseWritePlan_length hparse) h
    · exact h

theorem Serves.ownWriteProductSettings {body : List Byte} (h : P w.st) : P (ownWriteProductSettings body w).2.st := by
  unfold Machine.ownWriteProductSettings
  split
  · exact h
  · exact hP.cal _ _ h

theorem Serves.ownSetClock {body : List Byte} (h : P w.st) : P (ownSetClock body w).2.st := by
  unfold Machine.ownSetClock
  split
  · exact h
  next hparse => exact hP.clock _ _ _ (parseNumber32_lt hparse) h

theorem Serves.ownAckTickets {body : List Byte} (h : P w.st) : P (ownAckTickets body w).2.st := by
  unfold Machine.ownAckTickets
  split
  · exact h
  next n _ =>
    dsimp only
    split
    · exact h
    next hbeyond => exact hP.journal _ _ rfl (acked_le hbeyond) h

theorem Serves.ownReadStatus {link : Link} {body : List Byte} (h : P w.st) : P (ownReadStatus link body w).2.st := by
  unfold Machine.ownReadStatus
  split
  · exact h
  · exact hP.lost _ link h

theorem Serves.ownReadLine {link : Link} {body : List Byte} (h : P w.st) : P (ownReadLine link body w).2.st := by
  unfold Machine.ownReadLine
  split
  · exact h
  · exact hP.lost _ link h

theorem Serves.ownClearFaultLog {body : List Byte} (h : P w.st) : P (ownClearFaultLog body w).2.st := by
  unfold Machine.ownClearFaultLog
  repeat' split
  · exact h
  · exact h
  · exact hP.cleared _ h

theorem Serves.acceptArm {l : LineId} {n : SlotNo} {o : Order} {j : Journal} (hj : w.st.journal.grant = some j)
    (h : P w.st) : P (w.acceptArm l n o j).st := by
  have hslot : P { w.st with orders := w.st.orders.bind n l o } := hP.slots _ _ h
  have hplace := hP.journal { w.st with orders := w.st.orders.bind n l o } j.reserve
    (grant_pendingRecovery (k := j) hj) (grant_transferred (k := j) hj) hslot
  exact hP.changeState (hP.setLine (w := ⟨_, w.notes⟩) hplace)

theorem Serves.armWaiting {l : LineId} {n : SlotNo} {o : Order} (h : P w.st) : P (armWaiting l n o w).2.st := by
  unfold Machine.armWaiting
  dsimp only
  split
  · exact h
  · split
    · exact h
    · split
      · dsimp only
        exact hP.failedSweep h
      · split
        · exact h
        · split
          next => exact h
          next j hj => exact hP.acceptArm hj h

theorem Serves.ownArm {body : List Byte} (h : P w.st) : P (ownArm body w).2.st := by
  unfold Machine.ownArm
  repeat' split
  iterate 6 exact h
  exact hP.armWaiting h

theorem Serves.ownArmTest {body : List Byte} (h : P w.st) : P (ownArmTest body w).2.st := by
  unfold Machine.ownArmTest armTestIdle
  dsimp only
  repeat' split
  iterate 6 exact h
  · dsimp only
    exact hP.failedSweep h
  · exact hP.changeState (hP.setLine h)

theorem Serves.goFrom {st : LineState} {l : LineId} {reply : Work → Reply} (h : P w.st) :
    P (goFrom st l reply w).2.st := by
  unfold Machine.goFrom
  repeat' split
  · exact h
  · exact h
  · exact hP.loadAndGo h

theorem Serves.ownStart {body : List Byte} (h : P w.st) : P (ownStart body w).2.st := by
  unfold Machine.ownStart
  split
  · exact h
  · exact hP.goFrom h

theorem Serves.ownResume {body : List Byte} (h : P w.st) : P (ownResume body w).2.st := by
  unfold Machine.ownResume
  split
  · exact h
  · exact hP.goFrom h

theorem Serves.ownPause {body : List Byte} (h : P w.st) : P (ownPause body w).2.st := by
  unfold Machine.ownPause
  repeat' split
  · exact h
  · exact h
  · exact hP.pauseLine h

theorem Serves.ownAdd {body : List Byte} (h : P w.st) : P (ownAdd body w).2.st := by
  unfold Machine.ownAdd
  dsimp only
  repeat' split
  · exact h
  · exact h
  · exact h
  · exact hP.mapDelivery h

theorem Serves.endLine {c : EndCause} {l : LineId} (h : P w.st) : P (endLine c l w).2.st := by
  unfold Machine.endLine
  split
  iterate 4 exact h
  · split
    · exact hP.release h
    · exact hP.settleLine h
  iterate 3 exact hP.settleLine h

theorem Serves.ownEndDelivery {body : List Byte} (h : P w.st) : P (ownEndDelivery body w).2.st := by
  unfold Machine.ownEndDelivery
  split
  · exact h
  · exact hP.endLine h

theorem Serves.ownStopLine {body : List Byte} (h : P w.st) : P (ownStopLine body w).2.st := by
  unfold Machine.ownStopLine
  split
  · exact h
  · exact hP.endLine h

theorem Serves.ownDisarm {body : List Byte} (h : P w.st) : P (ownDisarm body w).2.st := by
  unfold Machine.ownDisarm
  repeat' split
  · exact h
  · exact hP.release h
  · exact h

theorem Serves.ownWriteRecord {body : List Byte} (h : P w.st) : P (ownWriteRecord body w).2.st := by
  unfold Machine.ownWriteRecord
  repeat' split
  iterate 5 exact h
  next c _ _ _ hcounter =>
    have hroom : w.st.store.eventCounter + 1 ≤ 999999 := Nat.lt_of_not_le hcounter
    exact hP.hand _ _ hroom (hP.cal _ _ h)

/-- Every owner keeps what its work keeps (R188). -/
theorem Serves.owner (k : RequestKind) {link : Link} {body : List Byte} (h : P w.st) : P (owner k link body w).2.st := by
  cases k with
  | loadOrder => exact hP.ownLoadOrder h
  | withdrawOrder => exact hP.ownWithdrawOrder h
  | writePlan => exact hP.ownWritePlan h
  | writeProductSettings => exact hP.ownWriteProductSettings h
  | setClock => exact hP.ownSetClock h
  | ackTickets => exact hP.ownAckTickets h
  | stopLine => exact hP.ownStopLine h
  | readStatus => exact hP.ownReadStatus h
  | arm => exact hP.ownArm h
  | start => exact hP.ownStart h
  | pause => exact hP.ownPause h
  | resume => exact hP.ownResume h
  | add => exact hP.ownAdd h
  | endDelivery => exact hP.ownEndDelivery h
  | disarm => exact hP.ownDisarm h
  | readLine => exact hP.ownReadLine h
  | writeRecord => exact hP.ownWriteRecord h
  | armTest => exact hP.ownArmTest h
  | clearFaultLog => exact hP.ownClearFaultLog h
  | readOrders => exact (ownReadOrders_work body w).symm ▸ h
  | readPlan => exact (ownReadPlan_work body w).symm ▸ h
  | readTicket => exact (ownReadTicket_work body w).symm ▸ h
  | readFaultLog => exact (ownReadFaultLog_work body w).symm ▸ h
  | readTotals => exact (ownReadTotals_work body w).symm ▸ h
  | readAudit => exact (ownReadAudit_work body w).symm ▸ h
  | searchOrder => exact (ownSearchOrder_work body w).symm ▸ h
  | readRecord => exact (ownReadRecord_work body w).symm ▸ h
  | readChecksum => exact (ownReadChecksum_work body w).symm ▸ h

end

end Sys2Proof.Safety
end

section
/-! PROOF. What survives a command, and the statements about every command: the queue, the outcome, the outputs, the store and
the events that cannot occur. -/

namespace Sys2Proof.Safety

open Sys2Proof.Machine

/-! ## Commands that leave the engine's completions, the restart and the damages aside -/

/-- A command is a request, an event of a link, a pickup, an input, a timer or the clock, or an upset of held bits: no
completion of a unit, no restart and no damage to the store. -/
def isCalm : Instr → Bool
  | .powerFailWarning | .resetAsserted | .restartSaveWritten | .startUpSequence | .startUpFinish
  | .journalAppendCompletion | .calibrationWriteCompletion | .testRecordCompletion | .restartUpdateCompletion
  | .faultLogWriteCompletion | .storedTicketDamage .. | .storedCalibrationDamage .. => false
  | _ => true

/-- Work done under a condition. -/
theorem ite_keeps {P : State → Prop} {u v : Work} {c : Prop} [Decidable c] (hu : P u.st) (hv : P v.st) :
    P (if c then u else v).st := by
  split
  · exact hu
  · exact hv

section
variable {P : State → Prop} (hP : Survives P) {s : State}
include hP

theorem Survives.send {link : Link} {x : TxFrame} (h : P s) : P (s.send link x) := hP.front s link _ (.place x) h

theorem Survives.sendNotices {ns : List Notice} (h : P s) : P (s.sendNotices ns) := by
  induction ns generalizing s with
  | nil => exact h
  | cons n ns ih => exact ih (hP.send h)

theorem Survives.setRx {link : Link} {rx : Receiver} (h : P s) : P (s.setRx link rx) := hP.front s link _ (.rx rx) h

theorem Survives.toHunt {link : Link} (h : P s) : P (s.toHunt link) := hP.setRx h

theorem Survives.drive (h : P s) : P s.drive :=
  hP.outputs { s with lines := s.drive.lines } s.drive.pump s.drive.dlvFault (hP.lines _ _ h)

/-- An event whose work keeps a property. -/
theorem Survives.event {f : Work → Work} (hf : ∀ w, P w.st → P (f w).st) (h : P s) :
    ∃ u, event f s = .next (State.drive u) ∧ P u :=
  ⟨_, event_next f s, hP.sendNotices (hf ⟨s, []⟩ h)⟩

/-- An event that changes the part and sends nothing. -/
theorem Survives.eventSt {f : State → State} (hf : ∀ s, P s → P (f s)) (h : P s) :
    ∃ u, Machine.event (fun w => w.mapSt f) s = .next (State.drive u) ∧ P u := hP.event (fun w => hf w.st) h

/-- A request, however the front judges it (R189). -/
theorem Survives.request {link : Link} {k : RequestKind} {body : List Byte} {owner : Work → Reply × Work}
    (ho : ∀ w, P w.st → P (owner w).2.st) (h : P s) :
    ∃ u, request link k body owner s = .next (State.drive u) ∧ P u := by
  have hhunt : P (s.toHunt link) := hP.toHunt h
  unfold Machine.request
  dsimp only
  split
  · exact ⟨_, rfl, hhunt⟩
  next hrun =>
    split
    · exact ⟨_, rfl, hP.send hhunt⟩
    · split
      · exact ⟨_, rfl, hP.send hhunt⟩
      · have hasked := hP.front (s.toHunt link) link _ (.ask k body (not_ne_iff.mp hrun)) hhunt
        exact ⟨_, rfl, hP.sendNotices (hP.send (ho ⟨_, []⟩ hasked))⟩

theorem Survives.unknownFrame {link : Link} {kind : Byte} (h : P s) : P (unknownFrame link kind s) := by
  have hhunt : P (s.toHunt link) := hP.toHunt h
  unfold Machine.unknownFrame
  dsimp only
  repeat' split
  · exact hhunt
  · exact hP.send hhunt
  · exact hP.send hhunt

theorem Survives.takeFrame {link : Link} {kind : Byte} {body : List Byte} (h : P s) :
    ∃ u, takeFrame link kind body s = .next (State.drive u) ∧ P u := by
  unfold Machine.takeFrame
  split
  next k _ => exact hP.request (fun _ => hP.owner k) h
  next => exact ⟨_, rfl, hP.unknownFrame h⟩

theorem Survives.setInputs {w : Work} {f : Inputs → Inputs} (h : P w.st) : P (w.mapSt (fun s => s.setInputs f)).st :=
  hP.inputs w.st _ w.st.estopHold h

theorem Survives.takeEstop {w : Work} (h : P w.st) : P w.takeEstop.st := by
  have hhold : P (w.mapSt (fun s => { s with estopHold := true })).st := hP.inputs w.st w.st.inputs true h
  exact hP.pauseIfFlowing (hP.pauseIfFlowing (hP.fault hhold))

theorem Survives.takePumpFault {w : Work} (h : P w.st) : P w.takePumpFault.st :=
  hP.pauseIfFlowing (hP.pauseIfFlowing (hP.fault h))

/-- A calm command keeps what survives. -/
theorem Survives.exec {c : Instr} (hc : isCalm c = true) (h : P s) : ∃ u, exec c s = .next (State.drive u) ∧ P u := by
  cases c with
  | loadOrder => exact hP.request (fun _ => hP.owner .loadOrder (link := .cab)) h
  | withdrawOrder => exact hP.request (fun _ => hP.owner .withdrawOrder (link := .cab)) h
  | readOrders => exact hP.request (fun _ => hP.owner .readOrders (link := .cab)) h
  | writePlan => exact hP.request (fun _ => hP.owner .writePlan (link := .cab)) h
  | readPlan => exact hP.request (fun _ => hP.owner .readPlan (link := .cab)) h
  | writeProductSettings => exact hP.request (fun _ => hP.owner .writeProductSettings (link := .cab)) h
  | setClock => exact hP.request (fun _ => hP.owner .setClock (link := .cab)) h
  | readTicket => exact hP.request (fun _ => hP.owner .readTicket (link := .cab)) h
  | ackTickets => exact hP.request (fun _ => hP.owner .ackTickets (link := .cab)) h
  | stopLine => exact hP.request (fun _ => hP.owner .stopLine (link := .cab)) h
  | readStatus link => exact hP.request (fun _ => hP.owner .readStatus (link := link)) h
  | readFaultLog => exact hP.request (fun _ => hP.owner .readFaultLog (link := .cab)) h
  | readTotals => exact hP.request (fun _ => hP.owner .readTotals (link := .cab)) h
  | readAudit => exact hP.request (fun _ => hP.owner .readAudit (link := .cab)) h
  | searchOrder => exact hP.request (fun _ => hP.owner .searchOrder (link := .cab)) h
  | arm => exact hP.request (fun _ => hP.owner .arm (link := .cab)) h
  | start => exact hP.request (fun _ => hP.owner .start (link := .cab)) h
  | pause => exact hP.request (fun _ => hP.owner .pause (link := .cab)) h
  | resume => exact hP.request (fun _ => hP.owner .resume (link := .cab)) h
  | add => exact hP.request (fun _ => hP.owner .add (link := .cab)) h
  | endDelivery => exact hP.request (fun _ => hP.owner .endDelivery (link := .cab)) h
  | disarm => exact hP.request (fun _ => hP.owner .disarm (link := .cab)) h
  | readLine link => exact hP.request (fun _ => hP.owner .readLine (link := link)) h
  | readRecord => exact hP.request (fun _ => hP.owner .readRecord (link := .cab)) h
  | writeRecord => exact hP.request (fun _ => hP.owner .writeRecord (link := .cab)) h
  | armTest => exact hP.request (fun _ => hP.owner .armTest (link := .cab)) h
  | clearFaultLog => exact hP.request (fun _ => hP.owner .clearFaultLog (link := .cab)) h
  | readChecksum => exact hP.request (fun _ => hP.owner .readChecksum (link := .cab)) h
  | unknownRequest => exact hP.takeFrame h
  | frameDiscarded =>
    change ∃ u, execFrameDiscarded _ s = _ ∧ _
    unfold execFrameDiscarded
    exact hP.eventSt (fun _ => hP.toHunt) h
  | lineError =>
    change ∃ u, execLineError _ s = _ ∧ _
    unfold execLineError
    exact hP.eventSt (fun _ => hP.toHunt) h
  | receiveGapTimeout =>
    change ∃ u, execReceiveGapTimeout _ s = _ ∧ _
    unfold execReceiveGapTimeout
    exact hP.eventSt (fun _ => hP.toHunt) h
  | frameTransmitted =>
    change ∃ u, execFrameTransmitted _ s = _ ∧ _
    unfold execFrameTransmitted
    refine hP.eventSt (fun s h => ?_) h
    split
    next hrun => exact hP.front s _ _ (.transmitted hrun) h
    next => exact h
  | linkByteReceived =>
    change ∃ u, execLinkByteReceived _ _ s = _ ∧ _
    unfold execLinkByteReceived
    split
    · exact hP.eventSt (fun _ => hP.setRx) h
    · exact hP.takeFrame (hP.setRx h)
  | pickup1Pulse =>
    change ∃ u, execPickup1Pulse _ s = _ ∧ _
    unfold execPickup1Pulse
    exact hP.event (fun _ h => ite_keeps (hP.pickup1 h) h) h
  | pickup2Pulse =>
    change ∃ u, execPickup2Pulse _ s = _ ∧ _
    unfold execPickup2Pulse
    exact hP.event (fun _ h => ite_keeps (hP.mapDelivery h) h) h
  | airAsserted =>
    change ∃ u, execAirAsserted _ s = _ ∧ _
    unfold execAirAsserted
    exact hP.event (fun _ h => ite_keeps (hP.pauseIfFlowing (hP.setInputs h)) (hP.setInputs h)) h
  | estopAsserted =>
    change ∃ u, execEstopAsserted s = _ ∧ _
    unfold execEstopAsserted
    refine hP.event (fun w h => ?_) h
    dsimp only
    split
    · exact h
    · exact ite_keeps (hP.takeEstop (hP.setInputs h)) (hP.setInputs h)
  | pumpFaultAsserted =>
    change ∃ u, execPumpFaultAsserted s = _ ∧ _
    unfold execPumpFaultAsserted
    refine hP.event (fun w h => ?_) h
    dsimp only
    split
    · exact h
    · exact ite_keeps (hP.takePumpFault (hP.setInputs h)) (hP.setInputs h)
  | inspectionSwitchOpened =>
    change ∃ u, execInspectionSwitchOpened s = _ ∧ _
    unfold execInspectionSwitchOpened
    exact hP.event (fun _ h => ite_keeps (hP.markOpened (hP.markOpened (hP.setInputs h))) (hP.setInputs h)) h
  | airReleased =>
    change ∃ u, execAirReleased _ s = _ ∧ _
    unfold execAirReleased
    exact hP.event (fun _ => hP.setInputs) h
  | estopReleased =>
    change ∃ u, execEstopReleased s = _ ∧ _
    unfold execEstopReleased
    refine hP.eventSt (fun s h => ?_) h
    dsimp only
    split
    · exact hP.inputs s { s.inputs with estop := false } false h
    · exact hP.inputs s { s.inputs with estop := false } s.estopHold h
  | pumpFaultReleased =>
    change ∃ u, execPumpFaultReleased s = _ ∧ _
    unfold execPumpFaultReleased
    exact hP.event (fun _ => hP.setInputs) h
  | inspectionSwitchClosed =>
    change ∃ u, execInspectionSwitchClosed s = _ ∧ _
    unfold execInspectionSwitchClosed
    exact hP.event (fun _ => hP.setInputs) h
  | powerFailWarningCleared =>
    change ∃ u, execPowerFailWarningCleared s = _ ∧ _
    unfold execPowerFailWarningCleared
    exact hP.eventSt (fun s => hP.inputs s _ s.estopHold) h
  | resetReleased =>
    change ∃ u, execResetReleased s = _ ∧ _
    unfold execResetReleased
    exact hP.eventSt (fun s => hP.inputs s _ s.estopHold) h
  | flowWindowExpiry =>
    change ∃ u, execFlowWindowExpiry _ _ s = _ ∧ _
    unfold execFlowWindowExpiry
    exact hP.event (fun _ h => ite_keeps (hP.flowExpiry h) h) h
  | quietTimerExpiry =>
    change ∃ u, execQuietTimerExpiry _ _ s = _ ∧ _
    unfold execQuietTimerExpiry
    exact hP.event (fun _ h => ite_keeps (hP.close h) h) h
  | capTimerExpiry =>
    change ∃ u, execCapTimerExpiry _ _ s = _ ∧ _
    unfold execCapTimerExpiry
    exact hP.event (fun _ h => ite_keeps (hP.close (hP.settleCap h)) h) h
  | sweepTimerExpiry =>
    change ∃ u, execSweepTimerExpiry s = _ ∧ _
    unfold execSweepTimerExpiry
    exact hP.event (fun _ h => ite_keeps (hP.sweepAll h) h) h
  | clockSecond =>
    change ∃ u, execClockSecond s = _ ∧ _
    unfold execClockSecond
    refine hP.eventSt (fun s h => ?_) h
    split
    · exact hP.clock s _ s.restart.clockValid (Nat.mod_lt _ (by decide)) h
    · exact h
  | shadowUpset =>
    change ∃ u, execShadowUpset _ _ s = _ ∧ _
    unfold execShadowUpset
    exact hP.eventSt (fun s => hP.cal s _) h
  | latchedCopyDisturbed =>
    change ∃ u, execLatchedCopyDisturbed _ _ s = _ ∧ _
    unfold execLatchedCopyDisturbed
    exact hP.event (fun _ h => ite_keeps (hP.mapDelivery h) h) h
  | powerFailWarning | resetAsserted | restartSaveWritten | startUpSequence | startUpFinish | journalAppendCompletion
  | calibrationWriteCompletion | testRecordCompletion | restartUpdateCompletion | faultLogWriteCompletion
  | storedTicketDamage | storedCalibrationDamage => cases hc

end

end Sys2Proof.Safety
end

section
/-! PROOF. What recovery leaves alone, and the statements about every command: the queue, the outcome, the outputs, the store. -/

namespace Sys2Proof.Safety

open Sys2Proof.Machine

/-! ## Units that carry no calibration write and no fault log -/

/-- A unit other than a calibration write and a fault-log write changes the engine alone. -/
theorem hand_engine_only (s : State) {u : WriteUnit} (hcal : ∀ r c d n e, u ≠ .calibration r c d n e) (hlog : u ≠ .faultLog) :
    s.hand u = { s with engine := (s.hand u).engine } := by
  unfold State.hand
  split
  · cases u with
    | calibration r c d n e => exact absurd rfl (hcal r c d n e)
    | faultLog => exact absurd rfl hlog
    | journalAppend | testRecord | restartUpdate => rfl
  · split <;> rfl
  · rfl
  · rfl

/-- What recovery leaves alone: all but the held snapshots, the engine, the counts of what was recovered and the journal's next
number and pending recovery. -/
structure RecoveryKeeps (s t : State) : Prop where
  pending : t.pending = s.pending
  lines : t.lines = s.lines
  outputs : t.pump = s.pump ∧ t.dlvFault = s.dlvFault
  holds : t.estopHold = s.estopHold ∧ t.restartHold = s.restartHold
  inputs : t.inputs = s.inputs
  orders : t.orders = s.orders
  plans : t.plans = s.plans
  cal : t.cal = s.cal
  faultLog : t.faultLog = s.faultLog
  links : t.links = s.links
  store : t.store = s.store
  journal : t.journal.header = s.journal.header ∧ t.journal.marks = s.journal.marks
    ∧ t.journal.reservations = s.journal.reservations
  restart : t.restart.phase = s.restart.phase ∧ t.restart.cause = s.restart.cause
    ∧ t.restart.interruptions = s.restart.interruptions ∧ t.restart.time = s.restart.time
    ∧ t.restart.clockValid = s.restart.clockValid

theorem RecoveryKeeps.refl (s : State) : RecoveryKeeps s s :=
  ⟨rfl, rfl, ⟨rfl, rfl⟩, ⟨rfl, rfl⟩, rfl, rfl, rfl, rfl, rfl, rfl, rfl, ⟨rfl, rfl, rfl⟩, ⟨rfl, rfl, rfl, rfl, rfl⟩⟩

theorem RecoveryKeeps.trans {s t u : State} (h : RecoveryKeeps s t) (k : RecoveryKeeps t u) : RecoveryKeeps s u where
  pending := k.pending.trans h.pending
  lines := k.lines.trans h.lines
  outputs := ⟨k.outputs.1.trans h.outputs.1, k.outputs.2.trans h.outputs.2⟩
  holds := ⟨k.holds.1.trans h.holds.1, k.holds.2.trans h.holds.2⟩
  inputs := k.inputs.trans h.inputs
  orders := k.orders.trans h.orders
  plans := k.plans.trans h.plans
  cal := k.cal.trans h.cal
  faultLog := k.faultLog.trans h.faultLog
  links := k.links.trans h.links
  store := k.store.trans h.store
  journal := by
    obtain ⟨h1, h2, h3⟩ := h.journal
    obtain ⟨k1, k2, k3⟩ := k.journal
    exact ⟨k1.trans h1, k2.trans h2, k3.trans h3⟩
  restart := by
    obtain ⟨h1, h2, h3, h4, h5⟩ := h.restart
    obtain ⟨k1, k2, k3, k4, k5⟩ := k.restart
    exact ⟨k1.trans h1, k2.trans h2, k3.trans h3, k4.trans h4, k5.trans h5⟩

/-- A unit of recovery handed to the engine. -/
theorem RecoveryKeeps.hand (s : State) {u : WriteUnit} (hcal : ∀ r c d n e, u ≠ .calibration r c d n e)
    (hlog : u ≠ .faultLog) : RecoveryKeeps s (s.hand u) := by
  rw [hand_engine_only s hcal hlog]
  exact ⟨rfl, rfl, ⟨rfl, rfl⟩, ⟨rfl, rfl⟩, rfl, rfl, rfl, rfl, rfl, rfl, rfl, ⟨rfl, rfl, rfl⟩, ⟨rfl, rfl, rfl, rfl, rfl⟩⟩

theorem RecoveryKeeps.setHeld (s : State) (l : LineId) (x : Snapshot) : RecoveryKeeps s (s.setHeld l x) :=
  ⟨rfl, rfl, ⟨rfl, rfl⟩, ⟨rfl, rfl⟩, rfl, rfl, rfl, rfl, rfl, rfl, rfl, ⟨rfl, rfl, rfl⟩, ⟨rfl, rfl, rfl, rfl, rfl⟩⟩

theorem RecoveryKeeps.setNext (s : State) (n : Nat) :
    RecoveryKeeps s { s with journal := { s.journal with nextNumber := n } } :=
  ⟨rfl, rfl, ⟨rfl, rfl⟩, ⟨rfl, rfl⟩, rfl, rfl, rfl, rfl, rfl, rfl, rfl, ⟨rfl, rfl, rfl⟩, ⟨rfl, rfl, rfl, rfl, rfl⟩⟩

theorem RecoveryKeeps.handAppend (s : State) (l : LineId) (n : Nat) (ticket : List Byte) :
    RecoveryKeeps s (s.handAppend l n ticket) := by
  have hcount : RecoveryKeeps s { s with
      journal := { s.journal with pendingRecovery := s.journal.pendingRecovery + 1 }
      restart := { s.restart with tickets := s.restart.tickets + 1 } } :=
    ⟨rfl, rfl, ⟨rfl, rfl⟩, ⟨rfl, rfl⟩, rfl, rfl, rfl, rfl, rfl, rfl, rfl, ⟨rfl, rfl, rfl⟩, ⟨rfl, rfl, rfl, rfl, rfl⟩⟩
  exact hcount.trans (.hand _ (fun _ _ _ _ _ => nofun) nofun)

theorem RecoveryKeeps.handTest (s : State) (l : LineId) (run : TestRun) : RecoveryKeeps s (s.handTest l run) := by
  have hcount : RecoveryKeeps s { s with restart := { s.restart with testRuns := s.restart.testRuns + 1 } } :=
    ⟨rfl, rfl, ⟨rfl, rfl⟩, ⟨rfl, rfl⟩, rfl, rfl, rfl, rfl, rfl, rfl, rfl, ⟨rfl, rfl, rfl⟩, ⟨rfl, rfl, rfl, rfl, rfl⟩⟩
  exact hcount.trans (.hand _ (fun _ _ _ _ _ => nofun) nofun)

theorem RecoveryKeeps.recoverRecorded (l : LineId) (s : State) : RecoveryKeeps s (s.recoverRecorded l) := by
  unfold State.recoverRecorded
  split
  · exact .refl s
  · exact (setHeld s l _).trans (handAppend _ l _ _)

theorem RecoveryKeeps.recoverRecordedSales (s : State) : RecoveryKeeps s s.recoverRecordedSales := by
  unfold State.recoverRecordedSales
  split
  · split
    · exact (recoverRecorded .b s).trans (recoverRecorded .a _)
    · exact (recoverRecorded .a s).trans (recoverRecorded .b _)
  · exact (recoverRecorded .a s).trans (recoverRecorded .b _)

theorem RecoveryKeeps.recoverOpenSale (l : LineId) (s : State) : RecoveryKeeps s (s.recoverOpenSale l) := by
  unfold State.recoverOpenSale
  dsimp only
  split
  · exact (setNext s _).trans ((setHeld _ l _).trans (handAppend _ l _ _))
  · exact .refl s

theorem RecoveryKeeps.recoverTest (l : LineId) (s : State) : RecoveryKeeps s (s.recoverTest l) := by
  unfold State.recoverTest
  dsimp only
  repeat' split
  · exact (setHeld s l _).trans (handTest _ l _)
  · exact .refl s
  · exact (setHeld s l _).trans (handTest _ l _)
  · exact .refl s
  · exact .refl s

theorem RecoveryKeeps.recover (s : State) : RecoveryKeeps s s.recover :=
  (setNext s _).trans <| (recoverRecordedSales _).trans <| (recoverOpenSale .a _).trans <| (recoverOpenSale .b _).trans <|
    (recoverTest .a _).trans (recoverTest .b _)

/-! ## The commands of the engine, the restart and the damages -/

/-- A completion: what the block that owns the unit keeps, and the engine's next unit and the place-free event after it. -/
theorem completion_keeps {P : State → Prop} (hP : Survives P) (hnext : ∀ s, P s → P s.engineNext.placeFree)
    {take : InFlight → Option (Work → Work)} {s : State}
    (htake : ∀ x f, s.engine.inFlight = some x → take x = some f → P (f ⟨s, []⟩).st) (h : P s) :
    ∃ u, completion take s = .next (State.drive u) ∧ P u := by
  unfold completion
  rw [event_next]
  split
  · exact ⟨_, rfl, hP.sendNotices h⟩
  next x hx =>
    split
    · exact ⟨_, rfl, hP.sendNotices h⟩
    next f hf => exact ⟨_, rfl, hP.sendNotices (hnext _ (htake x f hx hf))⟩

theorem Stable.checkEntry {P : State → Prop} (hP : Stable P) {w : Work} (i : Nat) (h : P w.st) : P (w.checkEntry i).st := by
  unfold Work.checkEntry
  dsimp only
  split
  · exact h
  · exact hP.fault (w := w.mapSt _) (hP.journal _ { w.st.journal with marks := setMark _ _ } rfl id h)

theorem Stable.checkJournal {P : State → Prop} (hP : Stable P) {w : Work} (h : P w.st) : P w.checkJournal.st :=
  foldl_keeps (fun _ i => hP.checkEntry i) _ h

theorem Stable.interruptedEntry {P : State → Prop} (hP : Stable P) {w : Work} {l : LineId} (h : P w.st) :
    P (w.interruptedEntry l).st := by
  unfold Work.interruptedEntry
  dsimp only
  split
  · exact hP.fault h
  · exact h

theorem Stable.takeInputs {P : State → Prop} (hP : Stable P) {w : Work} (h : P w.st) : P w.takeInputs.st := by
  unfold Work.takeInputs
  exact ite_keeps (hP.fault (ite_keeps (hP.fault h) h)) (ite_keeps (hP.fault h) h)

@[simp] theorem mapSt_st (f : State → State) (w : Work) : (w.mapSt f).st = f w.st := rfl

@[simp] theorem mapSt_notes (f : State → State) (w : Work) : (w.mapSt f).notes = w.notes := rfl

/-- The work of start-up once the save has been loaded (R175 steps 1 and 2). -/
def loadedSave (w : Work) : Work := (w.mapSt State.beginStartUp).loadAll.mapSt State.loadSave

/-- The work of start-up once the journal has been checked and recovery has handed over its units (R175 steps 3 and 4). -/
def recovered (w : Work) : Work := (loadedSave w).checkJournal.mapSt State.recover

theorem startUp_st (w : Work) : w.startUp.st =
    (((recovered w).interruptedEntry .a).interruptedEntry .b).st.countInterruption (loadedSave w).st.foundMarks := by
  unfold Work.startUp recovered loadedSave
  dsimp only [Work.mapSt]

/-- What every step of start-up keeps: what survives, when the loads of start-up, recovery and the last step keep it. -/
theorem startUp_keeps {P : State → Prop} (hP : Stable P) {w : Work} (hbegin : P w.st.beginStartUp)
    (hload : ∀ s, P s → P s.loadSave) (hrecover : ∀ s, P s → P s.recover)
    (hcount : ∀ s found, P s → P (s.countInterruption found)) : P w.startUp.st := by
  have hsave : P (loadedSave w).st :=
    hload _ (hP.loadAll (w := w.mapSt State.beginStartUp) hbegin)
  have hrecovered : P (recovered w).st := by
    rw [recovered, mapSt_st]
    exact hrecover _ (hP.checkJournal hsave)
  rw [startUp_st]
  exact hcount _ _ (hP.interruptedEntry (hP.interruptedEntry hrecovered))

/-! ## The queue -/

theorem survives_pending (p : List Instr) : Survives (fun s => s.pending = p) where
  lines _ _ h := h
  cal _ _ h := h
  slots _ _ h := h
  journal _ _ _ _ h := h
  log _ _ h := (State.logFault_pending _ _).trans h
  hand _ _ _ h := (State.hand_pending _ _).trans h
  lost _ _ h := h
  front _ _ _ _ h := h
  outputs _ _ _ h := h
  inputs _ _ _ h := h
  plan _ _ _ _ h := h
  counter _ h := h
  clock _ _ _ _ h := h
  cleared _ h := (State.placeFree_pending _).trans h

/-- A completion leaves the queue alone, whatever block takes it. -/
theorem completion_pending {take : InFlight → Option (Work → Work)}
    (htake : ∀ x f w, take x = some f → (f w).st.pending = w.st.pending) (s : State) :
    ∃ u, completion take s = .next (State.drive u) ∧ u.pending = s.pending :=
  completion_keeps (survives_pending s.pending) (fun t ht => by simpa using ht) (fun x f _ hf => htake x f ⟨s, []⟩ hf) rfl

theorem takeAppendUnit_keeps {P : State → Prop} (hP : Stable P) {x : InFlight} {f : Work → Work} {w : Work}
    (hf : takeAppendUnit x = some f) (htake : ∀ l r n m t, x.unit = .journalAppend l r n m t →
      P (w.st.takeAppend r m t x.header x.marks)) : P (f w).st := by
  unfold takeAppendUnit at hf
  split at hf
  next l r n m t hx =>
    cases hf
    dsimp only
    split
    · exact htake l r n m t hx
    · split
      · exact hP.finishSaleLine (w := w.mapSt _) (htake l r n m t hx)
      · exact htake l r n m t hx
  next => cases hf

theorem takeCalibrationUnit_keeps {P : State → Prop} (hP : Stable P) {x : InFlight} {f : Work → Work} {w : Work}
    (hf : takeCalibrationUnit x = some f) (htake : ∀ c k m n e, x.unit = .calibration c k m n e →
      P (w.st.takeCalibration c k m n e)) : P (f w).st := by
  unfold takeCalibrationUnit at hf
  split at hf
  next c k m n e hx =>
    cases hf
    dsimp only
    split
    · exact hP.afterCalibration (w := w.mapSt _) (htake c k m n e hx)
    · exact htake c k m n e hx
  next => cases hf

theorem takeTestUnit_keeps {P : State → Prop} (hP : Stable P) {x : InFlight} {f : Work → Work} {w : Work}
    (hf : takeTestUnit x = some f) (htake : ∀ l r run, x.unit = .testRecord l r run →
      P (w.st.takeTestRecord l run)) : P (f w).st := by
  unfold takeTestUnit at hf
  split at hf
  next l r run hx =>
    cases hf
    dsimp only
    split
    · exact htake l r run hx
    · split
      · exact hP.changeState (w := Work.notify _ _ _ (w.mapSt _)) (htake l r run hx)
      · exact htake l r run hx
  next => cases hf

theorem takeUpdateUnit_eq {x : InFlight} {f : Work → Work} (hf : takeUpdateUnit x = some f) :
    ∃ n m, x.unit = .restartUpdate n m ∧ f = fun w => w.mapSt (fun s => s.takeUpdate n m) := by
  unfold takeUpdateUnit at hf
  split at hf
  next n m hx => exact ⟨n, m, hx, (Option.some.inj hf).symm⟩
  next => cases hf

theorem takeFaultLogUnit_eq {x : InFlight} {f : Work → Work} (hf : takeFaultLogUnit x = some f) :
    x.unit = .faultLog ∧ f = fun w => w.mapSt (fun s => s.takeFaultLog x.ring) := by
  unfold takeFaultLogUnit at hf
  split at hf
  next hx => exact ⟨hx, (Option.some.inj hf).symm⟩
  next => cases hf

/-- Every command answers a next state whose outputs have been driven, and leaves the queue alone. -/
theorem exec_driven (c : Instr) (s : State) : ∃ u, exec c s = .next (State.drive u) ∧ u.pending = s.pending := by
  have hP := survives_pending s.pending
  by_cases hc : isCalm c = true
  · exact hP.exec hc rfl
  cases c with
  | powerFailWarning =>
    change ∃ u, execPowerFailWarning s = _ ∧ _
    unfold execPowerFailWarning
    refine hP.eventSt (fun t ht => ?_) rfl
    unfold State.takeRestart
    split <;> exact ht
  | resetAsserted =>
    change ∃ u, execResetAsserted s = _ ∧ _
    unfold execResetAsserted
    refine hP.eventSt (fun t ht => ?_) rfl
    unfold State.takeRestart
    split <;> exact ht
  | restartSaveWritten =>
    change ∃ u, execRestartSaveWritten s = _ ∧ _
    unfold execRestartSaveWritten
    refine hP.eventSt (fun t ht => ?_) rfl
    split <;> exact ht
  | startUpSequence =>
    change ∃ u, execStartUpSequence s = _ ∧ _
    unfold execStartUpSequence
    refine hP.event (fun w hw => ite_keeps (P := fun t => t.pending = s.pending) ?_ hw) rfl
    refine startUp_keeps hP.toStable hw (fun _ h => h) (fun t ht => (RecoveryKeeps.recover t).pending.trans ht) ?_
    exact fun t _ ht => (State.hand_pending _ _).trans ht
  | startUpFinish =>
    change ∃ u, execStartUpFinish s = _ ∧ _
    unfold execStartUpFinish
    refine hP.event (fun w hw => ite_keeps (P := fun t => t.pending = s.pending) ?_ hw) rfl
    have hinputs : (w.mapSt State.settleBlocks).takeInputs.st.pending = s.pending := hP.takeInputs hw
    exact (State.sendNotices_pending _ _).trans hinputs
  | journalAppendCompletion =>
    exact completion_pending (fun x f w hf => takeAppendUnit_keeps (survives_pending _).toStable hf (fun _ _ _ _ _ _ => rfl)) s
  | calibrationWriteCompletion =>
    exact completion_pending
      (fun x f w hf => takeCalibrationUnit_keeps (survives_pending _).toStable hf (fun _ _ _ _ _ _ => rfl)) s
  | testRecordCompletion =>
    exact completion_pending (fun x f w hf => takeTestUnit_keeps (survives_pending _).toStable hf (fun _ _ _ _ => rfl)) s
  | restartUpdateCompletion =>
    refine completion_pending (fun x f w hf => ?_) s
    obtain ⟨n, m, _, rfl⟩ := takeUpdateUnit_eq hf
    rfl
  | faultLogWriteCompletion =>
    refine completion_pending (fun x f w hf => ?_) s
    obtain ⟨_, rfl⟩ := takeFaultLogUnit_eq hf
    rfl
  | storedTicketDamage place record =>
    change ∃ u, execStoredTicketDamage place record s = _ ∧ _
    unfold execStoredTicketDamage
    refine hP.eventSt (fun t ht => ?_) rfl
    split <;> exact ht
  | storedCalibrationDamage d =>
    change ∃ u, execStoredCalibrationDamage d s = _ ∧ _
    unfold execStoredCalibrationDamage
    exact hP.eventSt (fun t ht => ht) rfl
  | _ => exact absurd rfl hc

/-- Settles O1: both clauses are what `step` says for an empty queue and for a front command. -/
theorem stepTakesFrontCommand : Obligations.StepTakesFrontCommand := by
  intro s
  refine ⟨fun h => ?_, fun c rest h => ?_⟩ <;> rw [step, h]

/-- Settles O2: every command answers a next state, driven, with the queue it found. -/
theorem everyCommandCompletes : Obligations.EveryCommandCompletes := by
  intro c s
  obtain ⟨u, hu, hpending⟩ := exec_driven c s
  exact ⟨_, hu, hpending⟩

/-! ## The outputs (R77, R78, R204) -/

theorem trickleOn_iff (v : ValveStage) : v.trickleOn = true ↔ v ≠ .closed := by cases v <;> decide

theorem mainOn_iff (v : ValveStage) : v.mainOn = true ↔ v = .full := by cases v <;> decide

theorem raisesDlvFault_iff (st : LineState) : st.raisesDlvFault = true ↔ st = .halted ∨ st = .unverified := by
  cases st <;> decide

theorem not_held_iff (s : State) : (!s.held) = true ↔ s.estopHold = false ∧ s.restartHold = false := by
  simp [State.held]

/-- Settles O55: every command ends by driving the outputs, and driving sets them to their conditions. -/
theorem outputsFollowTheState : Obligations.OutputsFollowTheState := by
  intro c s t ht
  obtain ⟨u, hu, -⟩ := exec_driven c s
  cases hu.symm.trans ht
  have hstate : ∀ l, (u.drive.line l).state = (u.line l).state := fun l => by rw [State.drive_line]; rfl
  refine ⟨fun l => ?_, ?_, ?_⟩
  · simp only [State.drive_line, Line.driven, Bool.and_eq_true, not_held_iff, mainOn_iff, trickleOn_iff, State.drive_estopHold,
      State.drive_restartHold]
    exact ⟨and_comm, and_comm⟩
  · rw [hstate, hstate]
    simp [State.pumpCondition, State.line, PerLine.get, and_assoc]
  · have hdlv : u.drive.dlvFault = (u.lines.a.state.raisesDlvFault || u.lines.b.state.raisesDlvFault) := rfl
    simp only [hdlv, Bool.or_eq_true, raisesDlvFault_iff, hstate]
    exact ⟨fun h => h.elim (fun h => ⟨.a, h⟩) (fun h => ⟨.b, h⟩), fun ⟨l, h⟩ => by cases l <;> [exact .inl h; exact .inr h]⟩

end Sys2Proof.Safety
end

section
/-! PROOF. Events that change nothing but what they name: outside RUNNING, disturbances, the receiver, the warning and the save,
releases and the inspection switch. -/

namespace Sys2Proof.Safety

open Sys2Proof.Machine

/-! ## Events -/

theorem next_drive {s t : State} (h : s = t) : (.next s.drive : Host.Outcome State Fault Refusal) = .next t.drive := h ▸ rfl

/-- An event whose work leaves the part as it is. -/
theorem event_nothing {f : Work → Work} {s : State} (hf : f ⟨s, []⟩ = ⟨s, []⟩) : event f s = .next s.drive := by
  rw [event_next, hf]
  rfl

/-- An event that changes the part and sends nothing. -/
theorem event_mapSt (f : State → State) (s : State) : event (fun w => w.mapSt f) s = .next (f s).drive := rfl

/-- An event taken under a condition that does not hold. -/
theorem event_untaken {c : Work → Bool} {f : Work → Work} {s : State} (h : c ⟨s, []⟩ = false) :
    event (fun w => if c w then f w else w) s = .next s.drive :=
  event_nothing (by rw [h]; rfl)

theorem taking_of_running {s : State} (h : s.restart.phase = .running) : s.taking = true := by simp [State.taking, h]

theorem taking_of_not_running {s : State} (h : s.restart.phase ≠ .running) : s.taking = false := by simp [State.taking, h]

/-! ## Nothing counts outside RUNNING -/

theorem windowDue_eq_false {ln : Line} (h : ln.windowRunning = false ∨ ln.state ≠ .flowing) : ln.windowDue = false := by
  rw [Line.windowDue, Bool.and_eq_false_iff]
  exact h.symm.imp_left beq_false_of_ne

theorem quietDue_eq_false {ln : Line} (h : ln.quietRunning = false ∨ ln.state ≠ .settling) : ln.quietDue = false := by
  rw [Line.quietDue, Bool.and_eq_false_iff]
  exact h.symm.imp_left beq_false_of_ne

theorem capDue_eq_false {ln : Line} (h : ln.capRunning = false ∨ ln.state ≠ .settling) : ln.capDue = false := by
  rw [Line.capDue, Bool.and_eq_false_iff]
  exact h.symm.imp_left beq_false_of_ne

/-- Settles O33: each of these events is taken under a condition on the phase or on its timer. -/
theorem nothingCountsOutsideRunning : Obligations.NothingCountsOutsideRunning := by
  intro l raw s
  have hand : ∀ {a b : Bool} {p : Prop}, (s.restart.phase ≠ .running → a = false) → (p → b = false) →
      s.restart.phase ≠ .running ∨ p → (a && b) = false := fun ha hb h =>
    Bool.and_eq_false_iff.mpr (h.imp ha hb)
  refine ⟨fun h => ⟨?_, ?_, ?_, ?_⟩, fun h => ?_, fun h => ?_, fun h => ?_, fun h => ?_⟩
  · exact event_untaken (f := fun w => w.pickup1 l) (c := fun w => w.st.taking) (taking_of_not_running h)
  · exact event_untaken (f := fun w => w.mapDelivery l Delivery.countB)
      (c := fun w => w.st.taking && (w.st.line l).state == .flowing) (Bool.and_eq_false_iff.mpr (.inl (taking_of_not_running h)))
  · exact event_untaken (f := Work.sweepAll) (c := fun w => w.st.taking && w.st.cal.sweepRunning)
      (Bool.and_eq_false_iff.mpr (.inl (taking_of_not_running h)))
  · exact event_nothing (f := fun w => w.mapSt fun s => _) (by simp [Work.mapSt, h])
  · exact event_untaken (f := fun w => w.flowExpiry l raw) (c := fun w => w.st.taking && (w.st.line l).windowDue)
      (hand taking_of_not_running windowDue_eq_false h)
  · exact event_untaken (f := fun w => w.close l raw) (c := fun w => w.st.taking && (w.st.line l).quietDue)
      (hand taking_of_not_running quietDue_eq_false h)
  · exact event_untaken (f := fun w => (w.settleCap l).close l raw) (c := fun w => w.st.taking && (w.st.line l).capDue)
      (hand taking_of_not_running capDue_eq_false h)
  · exact event_untaken (f := Work.sweepAll) (c := fun w => w.st.taking && w.st.cal.sweepRunning)
      (Bool.and_eq_false_iff.mpr (.inr h))

/-! ## Disturbances -/

/-- Settles O46: each disturbance is one field replaced by its operand. -/
theorem disturbancesChangeTheirBitsAlone : Obligations.DisturbancesChangeTheirBitsAlone := by
  intro s
  refine ⟨fun valid r => rfl, fun l c hmode => ?_, fun p record hplace => ?_, fun valid r => rfl, fun v => rfl⟩
  · change execLatchedCopyDisturbed l c s = _
    rw [execLatchedCopyDisturbed, event_next]
    simp only [Option.isSome_iff_ne_none.mpr hmode, if_true]
    rfl
  · change execStoredTicketDamage p record s = _
    rw [execStoredTicketDamage, event_mapSt]
    split
    · rfl
    next hnone => exact absurd hnone hplace

/-! ## The receiver (R185, R187) -/

/-- A byte that completes no frame moves the receiver alone. -/
theorem exec_byte_incomplete {link : Link} {b : Byte} {s : State} {rx : Receiver}
    (h : (s.front link).rx.take b = (rx, none)) :
    exec (.linkByteReceived link b) s = .next (s.setFront link { s.front link with rx := rx }).drive := by
  change execLinkByteReceived link b s = _
  rw [execLinkByteReceived, h]
  rfl

/-- A byte that completes a frame has the frame taken. -/
theorem exec_byte_complete {link : Link} {b : Byte} {s : State} {rx : Receiver} {kind : Byte} {body : List Byte}
    (h : (s.front link).rx.take b = (rx, some (kind, body))) :
    exec (.linkByteReceived link b) s = takeFrame link kind body (s.setRx link rx) := by
  change execLinkByteReceived link b s = _
  rw [execLinkByteReceived, h]

/-- Settles O7: each row of R187 is the value of `Receiver.take` under the row's conditions. -/
theorem receiverTakesBytes : Obligations.ReceiverTakesBytes := by
  intro link b s
  refine ⟨rfl, rfl, rfl, ?_, ?_, ?_, ?_, ?_, ?_, ?_, ?_, ?_⟩
  · intro h hb
    exact exec_byte_incomplete (by rw [h, Receiver.take, if_pos hb])
  · intro h hb
    exact exec_byte_incomplete (by rw [h, Receiver.take, if_neg hb])
  · intro h hlow hhigh
    exact exec_byte_incomplete (by rw [h, Receiver.take, if_pos ⟨hlow, hhigh⟩])
  · intro h hb
    exact exec_byte_incomplete (by rw [h, Receiver.take, if_neg (by omega)])
  · intro h
    exact exec_byte_incomplete (by rw [h, Receiver.take, if_pos (le_refl 1)])
  · intro len h hlen
    exact exec_byte_incomplete (by rw [h, Receiver.take, if_neg (by omega)])
  · intro len kind got h hlen
    exact exec_byte_incomplete (by rw [h, Receiver.take, if_neg (by omega)])
  · intro len kind got h hlen
    exact exec_byte_incomplete (by rw [h, Receiver.take, if_pos (by omega)])
  · intro kind body h
    exact exec_byte_incomplete (by rw [h, Receiver.take])

/-! ## The warning and the save -/

/-- A warning or RESET assertion in RUNNING or STARTING takes the restart path (R173, R176). -/
theorem takeRestart_of_active {s : State} (h : s.restart.phase = .running ∨ s.restart.phase = .starting) (c : RestartCause) :
    s.takeRestart c = s.restartPath c := by
  rw [State.takeRestart]
  rcases h with h | h <;> rw [h]

/-- In SAVING and STOPPED it is not acted on (R173, R174). -/
theorem takeRestart_of_ended {s : State} (h : s.restart.phase = .saving ∨ s.restart.phase = .stopped) (c : RestartCause) :
    s.takeRestart c = s := by
  rw [State.takeRestart]
  rcases h with h | h <;> rw [h]

/-- Settles O47: the phase says whether the warning is acted on, and phase and engine whether the save is written. -/
theorem warningAndSave : Obligations.WarningAndSave := by
  intro s
  refine ⟨fun h => ⟨?_, ?_⟩, fun h => ⟨?_, ?_⟩, rfl, rfl, fun hphase hengine => ?_, fun h => ?_⟩
  · change execPowerFailWarning s = _
    rw [execPowerFailWarning, event_mapSt]
    exact next_drive
      (takeRestart_of_active (s := { s with inputs := { s.inputs with powerFail := true } }) h _)
  · change execResetAsserted s = _
    rw [execResetAsserted, event_mapSt]
    exact next_drive
      (takeRestart_of_active (s := { s with inputs := { s.inputs with reset := true } }) h _)
  · change execPowerFailWarning s = _
    rw [execPowerFailWarning, event_mapSt]
    exact next_drive
      (takeRestart_of_ended (s := { s with inputs := { s.inputs with powerFail := true } }) h _)
  · change execResetAsserted s = _
    rw [execResetAsserted, event_mapSt]
    exact next_drive
      (takeRestart_of_ended (s := { s with inputs := { s.inputs with reset := true } }) h _)
  · change execRestartSaveWritten s = _
    rw [execRestartSaveWritten, event_mapSt, if_pos ⟨hphase, hengine⟩]
    rfl
  · change execRestartSaveWritten s = _
    rw [execRestartSaveWritten, event_mapSt, if_neg (not_and_or.mpr h)]

/-! ## Releases and the inspection switch -/

/-- An open SALE delivery with INSPECTION_OPENED set (R58). -/
def openedMark (ln : Line) : Line :=
  if ln.state.isOpen = true ∧ ln.delivery.mode = some .sale
  then { ln with delivery := { ln.delivery with flags := { ln.delivery.flags with inspectionOpened := true } } } else ln

theorem markOpened_eq (l : LineId) (w : Work) : w.markOpened l = ⟨w.st.setLine l (openedMark (w.st.line l)), w.notes⟩ := by
  unfold Work.markOpened openedMark
  by_cases h : (w.st.line l).state.isOpen = true ∧ (w.st.line l).delivery.mode = some .sale
  · rw [if_pos h, if_pos (by simp [h]), mapDelivery_eq]
  · rw [if_neg h, if_neg (by simpa using h)]
    simp [State.setLine, State.line]

/-- Settles O35: a release changes the input alone, and the switch marks line A and line B apart. -/
theorem releasesAndInspectionSwitch : Obligations.ReleasesAndInspectionSwitch := by
  intro s
  refine ⟨fun l => rfl, fun h => ?_, fun h => ?_, rfl, fun h => ?_, fun h => ?_, rfl⟩
  · change execEstopReleased s = _
    rw [execEstopReleased, event_mapSt]
    have htaking : (s.setInputs fun i => { i with estop := false }).taking = true := taking_of_running h
    simp only [htaking, if_true]
    rfl
  · change execEstopReleased s = _
    rw [execEstopReleased, event_mapSt]
    have htaking : (s.setInputs fun i => { i with estop := false }).taking = false := taking_of_not_running h
    simp only [htaking, if_false, Bool.false_eq_true]
    rfl
  · change execInspectionSwitchOpened s = _
    rw [execInspectionSwitchOpened, event_next]
    have htaking : (s.setInputs fun i => { i with inspectionOpen := true }).taking = true := taking_of_running h
    simp only [mapSt_st, htaking, if_true, markOpened_eq]
    rfl
  · change execInspectionSwitchOpened s = _
    rw [execInspectionSwitchOpened, event_next]
    have htaking : (s.setInputs fun i => { i with inspectionOpen := true }).taking = false := taking_of_not_running h
    simp only [mapSt_st, htaking, if_false, Bool.false_eq_true]
    rfl

end Sys2Proof.Safety
end

section
/-! PROOF. The pulses of PICKUP1 and the blocking inputs. -/

namespace Sys2Proof.Safety

open Sys2Proof.Machine

/-! ## Events that are taken -/

/-- An event taken under a condition that holds, when its work leaves the links and the phase alone. -/
theorem event_taken {c : Work → Bool} {f : Work → Work} {s t : State} {ns : List Notice} (hc : c ⟨s, []⟩ = true)
    (hf : f ⟨s, []⟩ = ⟨t, ns⟩) (hl : t.links = s.links) (hp : t.restart.phase = s.restart.phase) :
    event (fun w => if c w then f w else w) s = .next (State.drive { t with links := noticed s ns }) :=
  event_told (by rw [if_pos hc, hf]) hl hp

theorem logFault_setLine (s : State) (e : FaultEntry) (l : LineId) (ln : Line) :
    (s.logFault e).setLine l ln = { s.logFault e with lines := s.lines.set l ln } := by
  rw [State.setLine, State.logFault_lines]

theorem setLine_self (s : State) (l : LineId) : s.setLine l (s.line l) = s := by
  simp [State.setLine, State.line]

/-! ## PICKUP1 (R2 to R6, R17 to R20, R65, R66, R88) -/

/-- What a PICKUP1 pulse in RUNNING does. -/
theorem exec_pickup1 {l : LineId} {s t : State} {ns : List Notice} (hrun : s.restart.phase = .running)
    (h : Work.pickup1 l ⟨s, []⟩ = ⟨t, ns⟩) (hl : t.links = s.links) (hp : t.restart.phase = s.restart.phase) :
    exec (.pickup1Pulse l) s = .next (State.drive { t with links := noticed s ns }) :=
  event_taken (c := fun w => w.st.taking) (taking_of_running hrun) h hl hp

/-- A line in FLOWING with a pulse counted, in nA too (R5). -/
def flowCounted (ln : Line) : Line :=
  { counted ln with delivery := { (counted ln).delivery with counts :=
      { (counted ln).delivery.counts with nA := min 65535 ((counted ln).delivery.counts.nA + 1) } } }

theorem countA_eq (d : Delivery) : d.countA = { d with counts := { d.counts with nA := min 65535 (d.counts.nA + 1) } } := by
  rw [Delivery.countA, bump_eq, countLimit]

theorem countCreep_eq (d : Delivery) :
    d.countCreep = { d with counts := { d.counts with creep := min 65535 (d.counts.creep + 1) } } := by
  rw [Delivery.countCreep, bump_eq, countLimit]

/-- A pulse counted, then one count more of the delivery record. -/
theorem grossPulse_map (l : LineId) (f : Delivery → Delivery) (w : Work) :
    (w.grossPulse l).mapDelivery l f = ⟨w.st.setLine l
      { counted (w.st.line l) with delivery := f (counted (w.st.line l)).delivery }, w.notes⟩ := by
  rw [grossPulse_eq, mapDelivery_eq]
  simp only [State.setLine_line, setLine_setLine]

/-- A pulse in FLOWING: at the stop target the line settles (R65), and otherwise the valve follows the slow-down target. -/
theorem flowPulse_eq (l : LineId) (w : Work) (h : (w.st.line l).state = .flowing) : w.flowPulse l =
    let ln := flowCounted (w.st.line l)
    if ln.delivery.preset.stop ≤ ln.delivery.counts.g then
      ⟨w.st.setLine l (settled (targetCause ln.delivery) ln), w.notes ++ lineNotices l (settled (targetCause ln.delivery) ln) false⟩
    else ⟨w.st.setLine l { ln with delivery := ln.delivery.slowed }, w.notes⟩ := by
  have hcount : (w.grossPulse l).mapDelivery l Delivery.countA = ⟨w.st.setLine l (flowCounted (w.st.line l)), w.notes⟩ := by
    rw [grossPulse_map, countA_eq]
    rfl
  have hstate : (flowCounted (w.st.line l)).state ≠ .settling := by
    change (w.st.line l).state ≠ .settling
    rw [h]
    nofun
  unfold Work.flowPulse
  simp only [hcount, State.setLine_line, Delivery.atStop, decide_eq_true_eq, stopCause_eq]
  split
  · rw [settleLine_eq _ _ _ (by simpa using hstate)]
    simp only [State.setLine_line, setLine_setLine]
  · rw [mapDelivery_eq]
    simp only [State.setLine_line, setLine_setLine]

theorem slowed_of_full {d : Delivery} (hslow : d.preset.slow ≤ d.counts.g) (hfull : d.preset.stage = .full) :
    d.slowed = { d with preset := { d.preset with stage := .trickle } } := if_pos ⟨hslow, hfull⟩

theorem slowed_of_not {d : Delivery} (h : d.counts.g < d.preset.slow ∨ d.preset.stage ≠ .full) : d.slowed = d :=
  if_neg fun ⟨hslow, hfull⟩ => h.elim (fun hlt => absurd hslow (Nat.not_le_of_lt hlt)) (fun hne => hne hfull)

/-- Settles O29: the count decides against the stop target first, then against the slow-down target. -/
theorem pulseWhileFlowing : Obligations.PulseWhileFlowing := by
  intro l s hrun hflow ln0 ln g d
  have hpulse : Work.pickup1 l ⟨s, []⟩ = if d.preset.stop ≤ g then
      ⟨s.setLine l (settled (targetCause d) ln), lineNotices l (settled (targetCause d) ln) false⟩
      else ⟨s.setLine l { ln with delivery := d.slowed }, []⟩ := by
    rw [Work.pickup1]
    simp only [hflow]
    exact flowPulse_eq l ⟨s, []⟩ hflow
  refine ⟨fun hstop => ?_, fun hstop hslow hfull => ?_, fun hstop hstay => ?_⟩
  · exact exec_pickup1 hrun (hpulse.trans (if_pos hstop)) rfl rfl
  · have hmiss := hpulse.trans (if_neg (Nat.not_le_of_lt hstop))
    rw [slowed_of_full hslow hfull] at hmiss
    exact exec_pickup1 hrun hmiss rfl rfl
  · have hmiss := hpulse.trans (if_neg (Nat.not_le_of_lt hstop))
    rw [slowed_of_not hstay] at hmiss
    exact exec_pickup1 hrun hmiss rfl rfl

/-- A pulse in HALTED, and in ARMED and PAUSED before its limit is judged: a pulse counted as creep (R5). -/
theorem creep_counted (l : LineId) (w : Work) :
    (w.grossPulse l).mapDelivery l Delivery.countCreep = ⟨w.st.setLine l (crept (counted (w.st.line l))), w.notes⟩ := by
  rw [grossPulse_map, countCreep_eq]
  rfl

/-- A pulse in ARMED or PAUSED: above the limit of the latched LINE copy it halts the line (R17). -/
theorem creepPulse_eq (l : LineId) (w : Work) (h : (w.st.line l).state ≠ .halted) : w.creepPulse l =
    let ln := crept (counted (w.st.line l))
    let e : FaultEntry := ⟨w.st.stamp, .creep, some l, BitVec.ofNat 32 ln.delivery.counts.creep⟩
    if ln.delivery.latched.line.creepLimit.toNat < ln.delivery.counts.creep then
      ⟨(w.st.logFault e).setLine l (halted .creep ln), w.notes ++ lineNotices l (halted .creep ln) false ++ faultNotices e⟩
    else ⟨w.st.setLine l ln, w.notes⟩ := by
  have hstate : (crept (counted (w.st.line l))).state ≠ .halted := h
  unfold Work.creepPulse
  simp only [creep_counted, State.setLine_line]
  split
  · rw [haltLine_eq _ _ _ (by simpa using hstate)]
    simp only [State.setLine_line, setLine_setLine, fault_setLine]
  · rfl

/-- Settles O30: the line state selects the case, and in ARMED and PAUSED the creep limit. -/
theorem pulseWithValveClosed : Obligations.PulseWithValveClosed := by
  intro l s hrun ln limit e
  refine ⟨fun hst => ?_, fun hst => ?_, fun hst => ?_⟩
  · have hpulse : Work.pickup1 l ⟨s, []⟩ = Work.creepPulse l ⟨s, []⟩ := by
      rw [Work.pickup1]
      rcases hst with hst | hst <;> simp only [hst]
    have hhalted : (s.line l).state ≠ .halted := by
      rcases hst with hst | hst <;> rw [hst] <;> nofun
    rw [creepPulse_eq l ⟨s, []⟩ hhalted] at hpulse
    refine ⟨fun hlimit => ?_, fun hlimit => ?_⟩
    · exact exec_pickup1 hrun (hpulse.trans (if_neg (Nat.not_lt_of_le hlimit))) rfl rfl
    · have hhalt := hpulse.trans (if_pos hlimit)
      rw [logFault_setLine] at hhalt
      exact exec_pickup1 hrun hhalt (State.logFault_links _ _) (congrArg Restart.phase (State.logFault_restart _ _))
  · have hpulse : Work.pickup1 l ⟨s, []⟩ = ⟨s.setLine l (crept (counted (s.line l))), []⟩ := by
      rw [Work.pickup1]
      simp only [hst, creep_counted]
    exact exec_pickup1 hrun hpulse rfl rfl
  · have hpulse : Work.pickup1 l ⟨s, []⟩ = ⟨s.setLine l { counted (s.line l) with quietRunning := true }, []⟩ := by
      rw [Work.pickup1]
      simp only [hst, Work.settlingPulse, grossPulse_eq, State.setLine_line, Work.setLine, Work.mapSt, setLine_setLine]
    exact exec_pickup1 hrun hpulse rfl rfl

/-- A line with a pulse counted as unticketed volume at an increment (R18). -/
def unticketedCounted (f : Factor) (ln : Line) : Line :=
  let p := advanced ln.delivery.counts.framePos
  { ln with
    totalizer := (ln.totalizer + pulseIncrement f p) % 1000000000000000
    unticketed := (ln.unticketed + pulseIncrement f p) % 1000000000000000
    stayLogged := true
    delivery := { ln.delivery with counts := { ln.delivery.counts with framePos := p } } }

/-- A pulse in IDLE, UNVERIFIED or RECORDING: the first of a stay makes an entry (R18, R19). -/
theorem unticketedPulse_eq (l : LineId) (w : Work) : w.unticketedPulse l =
    let ln := unticketedCounted (w.st.idleFactor l) (w.st.line l)
    let e : FaultEntry := ⟨w.st.stamp, .unticketedFlow, some l, BitVec.ofNat 32 (w.st.unticketedDetail l)⟩
    if (w.st.line l).stayLogged = true then ⟨w.st.setLine l ln, w.notes⟩
    else ⟨(w.st.logFault e).setLine l ln, w.notes ++ faultNotices e⟩ := by
  have hline : w.unticketedPulse l =
      if (w.st.line l).stayLogged = true then ⟨w.st.setLine l (unticketedCounted (w.st.idleFactor l) (w.st.line l)), w.notes⟩
      else Work.fault .unticketedFlow (some l) (BitVec.ofNat 32 (w.st.unticketedDetail l))
        ⟨w.st.setLine l (unticketedCounted (w.st.idleFactor l) (w.st.line l)), w.notes⟩ := by
    simp only [Work.unticketedPulse, increment_eq]
    rfl
  rw [hline]
  dsimp only
  split
  · rfl
  · rw [fault_setLine]

/-- Settles O31: the stay's flag says whether the pulse makes an entry. -/
theorem pulseUnticketed : Obligations.PulseUnticketed := by
  intro l s hrun hst ln live f p ln' e
  have hpulse : Work.pickup1 l ⟨s, []⟩ = Work.unticketedPulse l ⟨s, []⟩ := by
    rw [Work.pickup1]
    rcases hst with hst | hst | hst <;> simp only [hst]
  rw [unticketedPulse_eq] at hpulse
  refine ⟨fun hlogged => ?_, fun hlogged => ?_⟩
  · exact exec_pickup1 hrun (hpulse.trans (if_pos hlogged)) rfl rfl
  · have hfirst := hpulse.trans (if_neg (ne_true_of_eq_false hlogged))
    rw [logFault_setLine] at hfirst
    exact exec_pickup1 hrun hfirst (State.logFault_links _ _) (congrArg Restart.phase (State.logFault_restart _ _))

/-! ## The blocking inputs (R55 to R57, R77 to R80, R201) -/

/-- A line as a blocking input leaves it. -/
def pausedIfFlowing (c : PauseCause) (ln : Line) : Line := if ln.state = .flowing then paused c ln else ln

/-- The notices of a line that a blocking input pauses. -/
def pauseNotices (c : PauseCause) (l : LineId) (ln : Line) : List Notice :=
  if ln.state = .flowing then lineNotices l (paused c ln) false else []

theorem pauseIfFlowing_eq (l : LineId) (c : PauseCause) (w : Work) : w.pauseIfFlowing l c =
    ⟨w.st.setLine l (pausedIfFlowing c (w.st.line l)), w.notes ++ pauseNotices c l (w.st.line l)⟩ := by
  unfold Work.pauseIfFlowing pausedIfFlowing pauseNotices
  by_cases h : (w.st.line l).state = .flowing
  · rw [if_pos h, if_pos h, if_pos h, pauseLine_eq l c w (by rw [h]; nofun)]
  · rw [if_neg h, if_neg h, if_neg h, setLine_self, List.append_nil]

/-- Both lines paused by one input, line A before line B. -/
theorem pauseBoth_eq (c : PauseCause) (w : Work) : (w.pauseIfFlowing .a c).pauseIfFlowing .b c =
    ⟨{ w.st with lines := ⟨pausedIfFlowing c w.st.lines.a, pausedIfFlowing c w.st.lines.b⟩ },
      w.notes ++ pauseNotices c .a w.st.lines.a ++ pauseNotices c .b w.st.lines.b⟩ := by
  rw [pauseIfFlowing_eq, pauseIfFlowing_eq]
  rfl

/-- Outside RUNNING an input that asserts records its level alone. -/
theorem event_level {f : Inputs → Inputs} {g : Work → Work} {s : State} (h : s.restart.phase ≠ .running) :
    event (fun w => let w := w.mapSt (fun s => s.setInputs f); if w.st.taking then g w else w) s
      = .next (s.setInputs f).drive := by
  have htaking : (s.setInputs f).taking = false := taking_of_not_running h
  rw [event_next]
  simp only [mapSt_st, htaking, Bool.false_eq_true, if_false]
  rfl

/-- In RUNNING it is acted on with its level recorded. -/
theorem event_asserted {f : Inputs → Inputs} {g : Work → Work} {s t : State} {ns : List Notice}
    (h : s.restart.phase = .running) (hg : g ⟨s.setInputs f, []⟩ = ⟨t, ns⟩) (hl : t.links = s.links)
    (hp : t.restart.phase = s.restart.phase) :
    event (fun w => let w := w.mapSt (fun s => s.setInputs f); if w.st.taking then g w else w) s
      = .next (State.drive { t with links := noticed s ns }) := by
  have htaking : (s.setInputs f).taking = true := taking_of_running h
  refine event_told ?_ hl hp
  simp only [mapSt_st, htaking, if_true]
  exact hg

theorem logFault_level_comm (s : State) (e : FaultEntry) (i : Inputs) :
    ({ s with inputs := i } : State).logFault e = { s.logFault e with inputs := i } := by
  have hhold : ∀ (t : State) (h : Bool), h = t.estopHold → { t with inputs := i, estopHold := h } = { t with inputs := i } := by
    rintro t _ rfl
    rfl
  exact (logFault_inputs_comm s e i s.estopHold).trans (hhold _ _ (State.logFault_estopHold s e).symm)

theorem exec_estop_new {s : State} (h : s.inputs.estop = false) : exec .estopAsserted s =
    event (fun w => let w := w.mapSt (fun s => s.setInputs (fun i => { i with estop := true }))
      if w.st.taking then w.takeEstop else w) s := by
  change execEstopAsserted s = _
  simp only [execEstopAsserted, event_next, h, Bool.false_eq_true, if_false]

theorem exec_pumpFault_new {s : State} (h : s.inputs.pumpFault = false) : exec .pumpFaultAsserted s =
    event (fun w => let w := w.mapSt (fun s => s.setInputs (fun i => { i with pumpFault := true }))
      if w.st.taking then w.takePumpFault else w) s := by
  change execPumpFaultAsserted s = _
  simp only [execPumpFaultAsserted, event_next, h, Bool.false_eq_true, if_false]

theorem exec_estop_again {s : State} (h : s.inputs.estop = true) : exec .estopAsserted s = .next s.drive := by
  change execEstopAsserted s = _
  exact event_nothing (if_pos h)

theorem exec_pumpFault_again {s : State} (h : s.inputs.pumpFault = true) : exec .pumpFaultAsserted s = .next s.drive := by
  change execPumpFaultAsserted s = _
  exact event_nothing (if_pos h)

/-- Entering an input's level when it stands already changes nothing. -/
theorem inputs_level {s : State} {i : Inputs} (h : i = s.inputs) : s.drive = State.drive { s with inputs := i } := h ▸ rfl

/-- Settles O34: in RUNNING the input is acted on by both lines in turn; outside RUNNING its level alone is recorded. -/
theorem blockingInputsPause : Obligations.BlockingInputsPause := by
  intro s
  refine ⟨fun hrun => ?_, fun hrun => ⟨fun l => event_level hrun, ?_, ?_⟩⟩
  · intro pause told entry
    refine ⟨fun l => ?_, fun hnew => ?_, fun hnew => ?_, exec_estop_again, exec_pumpFault_again⟩
    · exact event_asserted hrun (pauseIfFlowing_eq l .air _) rfl rfl
    · have htake : Work.takeEstop ⟨s.setInputs fun i => { i with estop := true }, []⟩ =
          ⟨{ s.logFault (entry .estop) with
            inputs := { s.inputs with estop := true }
            estopHold := true
            lines := ⟨pause .estop s.lines.a, pause .estop s.lines.b⟩ },
            faultNotices (entry .estop) ++ told .estop .a ++ told .estop .b⟩ := by
        rw [Work.takeEstop]
        simp only [Work.mapSt, State.setInputs, fault_eq, logFault_inputs_comm, pauseBoth_eq, State.logFault_lines]
        rfl
      rw [exec_estop_new hnew]
      exact event_asserted hrun htake (State.logFault_links _ _) (congrArg Restart.phase (State.logFault_restart _ _))
    · have htake : Work.takePumpFault ⟨s.setInputs fun i => { i with pumpFault := true }, []⟩ =
          ⟨{ s.logFault (entry .pumpFault) with
            inputs := { s.inputs with pumpFault := true }
            lines := ⟨pause .pump s.lines.a, pause .pump s.lines.b⟩ },
            faultNotices (entry .pumpFault) ++ told .pump .a ++ told .pump .b⟩ := by
        rw [Work.takePumpFault]
        simp only [State.setInputs, fault_eq, logFault_level_comm, pauseBoth_eq, State.logFault_lines]
        rfl
      rw [exec_pumpFault_new hnew]
      exact event_asserted hrun htake (State.logFault_links _ _) (congrArg Restart.phase (State.logFault_restart _ _))
  · by_cases h : s.inputs.estop = true
    · rw [exec_estop_again h]
      exact congrArg _ (inputs_level (by rw [← h]))
    · rw [exec_estop_new (Bool.not_eq_true _ ▸ h)]
      exact event_level hrun
  · by_cases h : s.inputs.pumpFault = true
    · rw [exec_pumpFault_again h]
      exact congrArg _ (inputs_level (by rw [← h]))
    · rw [exec_pumpFault_new (Bool.not_eq_true _ ▸ h)]
      exact event_level hrun

end Sys2Proof.Safety
end

section
/-! PROOF. The requests that move a line: START, PAUSE, RESUME, ADD, END, STOP_LINE, DISARM. -/

namespace Sys2Proof.Safety

open Sys2Proof.Machine

/-! ## Replies -/

/-- The refusal of a line request in a state that does not take it, in the words of section 3.10. -/
theorem busyCode_eq (st : LineState) : st.busyCode = if st = .unverified then .unverified else .lineBusy := by
  cases st <;> rfl

/-! ## PAUSE (R52) -/

/-- Settles O22: FLOWING alone takes the request. -/
theorem pauseByDriver : Obligations.PauseByDriver := by
  intro link body s l htakes hparse
  refine ⟨fun hflow => ?_, fun hother => ?_⟩
  · refine request_told htakes (t := (asked s link .pause body).setLine l (paused .driver (s.line l))) ?_ rfl rfl
    have hstate : ((asked s link .pause body).line l).state = .flowing := hflow
    simp only [ownPause, hparse, hstate, ne_eq, not_true_eq_false, if_false]
    rw [pauseLine_eq l .driver _ (by rw [hstate]; nofun)]
    rfl
  · refine request_answered htakes ?_
    have hstate : ((asked s link .pause body).line l).state ≠ .flowing := hother
    simp only [ownPause, hparse, if_pos hstate, busyCode_eq]
    rfl

/-! ## START and RESUME (R51, R53) -/

/-- A request that a line state takes out of it by a load. -/
theorem goFrom_loads {st : LineState} {l : LineId} {reply : Work → Reply} {w : Work} (hst : (w.st.line l).state = st)
    (hfree : w.st.blocking l = none) : goFrom st l reply w = (reply (w.loadAndGo l), w.loadAndGo l) := by
  simp [goFrom, hst, hfree]

theorem goFrom_busy {st : LineState} {l : LineId} {reply : Work → Reply} {w : Work} (hst : (w.st.line l).state ≠ st) :
    goFrom st l reply w = (.refused (w.st.line l).state.busyCode, w) := if_pos hst

theorem goFrom_blocked {st : LineState} {l : LineId} {reply : Work → Reply} {w : Work} {c : RefusalCode}
    (hst : (w.st.line l).state = st) (hblock : w.st.blocking l = some c) : goFrom st l reply w = (.refused c, w) := by
  simp [goFrom, hst, hblock]

/-- A line as a load leaves it that does not settle: FLOWING with a new window. -/
theorem loadAndGo_flows {l : LineId} {w : Work} (hset : (w.st.line l).state ≠ .settling) (hflow : (w.st.line l).state ≠ .flowing)
    (hstop : (w.st.line l).delivery.counts.g < (loaded (w.st.line l).delivery).preset.stop) :
    w.loadAndGo l =
      let ln := flowing { w.st.line l with delivery := loaded (w.st.line l).delivery }
      ⟨w.st.setLine l ln, w.notes ++ lineNotices l ln false⟩ := by
  rw [loadAndGo_eq l w hset hflow]
  have h : ¬ (loaded (w.st.line l).delivery).preset.stop ≤ (loaded (w.st.line l).delivery).counts.g := Nat.not_le_of_lt hstop
  simp only [if_neg h]

/-- A line as a load leaves it that reaches the new stop target at once: SETTLING. -/
theorem loadAndGo_settles {l : LineId} {w : Work} (hset : (w.st.line l).state ≠ .settling)
    (hflow : (w.st.line l).state ≠ .flowing)
    (hstop : (loaded (w.st.line l).delivery).preset.stop ≤ (w.st.line l).delivery.counts.g) :
    w.loadAndGo l =
      let ln0 := { w.st.line l with delivery := loaded (w.st.line l).delivery }
      let ln := settled (targetCause ln0.delivery) ln0
      ⟨w.st.setLine l ln, w.notes ++ lineNotices l ln false⟩ := by
  rw [loadAndGo_eq l w hset hflow]
  have h : (loaded (w.st.line l).delivery).preset.stop ≤ (loaded (w.st.line l).delivery).counts.g := hstop
  simp only [if_pos h]

/-- Settles O21: START and RESUME differ in the state they take and in their reply. -/
theorem startAndResumeLoad : Obligations.StartAndResumeLoad := by
  intro link body s l hparse hestop hpump hair ln go
  have hfree : ∀ k, (asked s link k body).blocking l = none := fun k => by
    change s.blocking l = none
    simp [State.blocking, hestop, hpump, hair]
  refine ⟨fun htakes hst => ⟨fun hstop => ?_, fun hstop => ?_⟩, fun htakes hst => ⟨fun hstop => ?_, fun hstop => ?_⟩⟩
  · refine request_told htakes (t := (asked s link .start body).setLine l (flowing ln)) ?_ rfl rfl
    have hstate : ((asked s link .start body).line l).state = .armed := hst
    have hgo := loadAndGo_flows (w := ⟨asked s link .start body, []⟩) (by rw [hstate]; nofun) (by rw [hstate]; nofun) hstop
    simp only [ownStart, hparse]
    rw [goFrom_loads hstate (hfree _), hgo]
    simp only [State.setLine_line, ← stateByte_eq]
    rfl
  · refine request_told htakes (t := (asked s link .start body).setLine l (settled (targetCause ln.delivery) ln)) ?_ rfl rfl
    have hstate : ((asked s link .start body).line l).state = .armed := hst
    have hgo := loadAndGo_settles (w := ⟨asked s link .start body, []⟩) (by rw [hstate]; nofun) (by rw [hstate]; nofun) hstop
    simp only [ownStart, hparse]
    rw [goFrom_loads hstate (hfree _), hgo]
    simp only [State.setLine_line, ← stateByte_eq]
    rfl
  · refine request_told htakes (t := (asked s link .resume body).setLine l (flowing ln)) ?_ rfl rfl
    have hstate : ((asked s link .resume body).line l).state = .paused := hst
    have hgo := loadAndGo_flows (w := ⟨asked s link .resume body, []⟩) (by rw [hstate]; nofun) (by rw [hstate]; nofun) hstop
    simp only [ownResume, hparse]
    rw [goFrom_loads hstate (hfree _), hgo]
    rfl
  · refine request_told htakes (t := (asked s link .resume body).setLine l (settled (targetCause ln.delivery) ln)) ?_ rfl rfl
    have hstate : ((asked s link .resume body).line l).state = .paused := hst
    have hgo := loadAndGo_settles (w := ⟨asked s link .resume body, []⟩) (by rw [hstate]; nofun) (by rw [hstate]; nofun) hstop
    simp only [ownResume, hparse]
    rw [goFrom_loads hstate (hfree _), hgo]
    rfl

/-! ## ADD (R90) -/

theorem room_eq (d : Delivery) :
    d.room = 9999999 - (d.preset.amount.getD 0 + d.preset.loadedTop + d.preset.stagedTop) := by
  simp only [Delivery.room, capacity, Nat.sub_sub, Nat.add_assoc]

theorem min_room_eq (d : Delivery) (amount : Nat) : min amount d.room =
    let used := d.preset.amount.getD 0 + d.preset.loadedTop + d.preset.stagedTop
    if amount ≤ 9999999 - used then amount else 9999999 - used := by
  rw [room_eq, Nat.min_def]

theorem takesAdd_iff (st : LineState) : st.takesAdd = true ↔ st = .armed ∨ st = .flowing ∨ st = .paused := by
  cases st <;> decide

/-- Settles O23: the preset kind decides whether the amount is staged. -/
theorem topUpIsStaged : Obligations.TopUpIsStaged := by
  intro link body s l amount htakes hparse hst d used cut top
  have hadd : ((asked s link .add body).line l).state.takesAdd = true := (takesAdd_iff _).mpr hst
  have hcut : min amount d.room = cut := min_room_eq d amount
  clear_value cut
  subst hcut
  refine ⟨fun hkind => ?_, fun hkind => ?_⟩
  · refine request_told htakes (t := (asked s link .add body).setLine l { s.line l with delivery := { d with preset := { d.preset with
        stagedTop := d.preset.stagedTop + min amount d.room, stagedStop := d.stopFor top, stagedSlow := d.slowFor top } } }) ?_ rfl rfl
    have hvolume : ((asked s link .add body).line l).delivery.preset.kind ≠ some .fill := hkind
    simp only [ownAdd, hparse, hadd, Bool.not_true, Bool.false_eq_true, if_false, if_neg hvolume, mapDelivery_eq, addReply,
      Delivery.stageTopUp]
    rfl
  · refine request_answered htakes ?_
    have hfill : ((asked s link .add body).line l).delivery.preset.kind = some .fill := hkind
    simp only [ownAdd, hparse, hadd, Bool.not_true, Bool.false_eq_true, if_false, if_pos hfill]

/-! ## END, STOP_LINE and DISARM (R62 to R64) -/

/-- A line whose staged top-up has been discarded (R91). -/
def withoutTopUp (ln : Line) : Line := { ln with delivery := { ln.delivery with preset := { ln.delivery.preset with
  stagedTop := 0, stagedStop := ln.delivery.preset.stop, stagedSlow := ln.delivery.preset.slow } } }

theorem releasedState_eq (s : State) (l : LineId) : s.releasedState l =
    if (s.cal.shadows.line.get l).valid = true ∧ s.cal.consistent = true then .idle else .unverified := by
  simp only [State.releasedState, State.lineSound, Bool.and_eq_true]

/-- The release of a line, once its slot and its reservation have been given back (R64). -/
theorem release_eq (l : LineId) (w : Work) (hst : (w.st.line l).state = .armed) : w.release l =
    let ln := freed (w.st.releasedState l) (withoutTopUp (w.st.line l))
    ⟨(w.st.giveBack l).setLine l ln, w.notes ++ lineNotices l ln false⟩ := by
  have hback : (w.st.giveBack l).line l = w.st.line l := by
    unfold State.giveBack
    split <;> rfl
  have hsound : (w.st.giveBack l).releasedState l = w.st.releasedState l := by
    unfold State.giveBack
    split <;> rfl
  have hrest : w.st.releasedState l = .idle ∨ w.st.releasedState l = .unverified := by
    unfold State.releasedState
    split
    · exact .inl rfl
    · exact .inr rfl
  have hstate : ((w.mapSt fun s => s.giveBack l).st.line l).state ≠ w.st.releasedState l := by
    rw [mapSt_st, hback, hst]
    rcases hrest with h | h <;> rw [h] <;> nofun
  have hnew : (((w.mapSt fun s => s.giveBack l).mapDelivery l Delivery.discardTopUp).st).releasedState l
      = w.st.releasedState l := hsound
  simp only [Work.release]
  rw [hnew, map_change _ _ _ _ _ hstate, mapSt_st, mapSt_notes, hback, enter_freed _ _ hrest]
  rfl

theorem giveBack_of_test {s : State} {l : LineId} (h : (s.line l).delivery.mode = some .test) : s.giveBack l = s := by
  rw [State.giveBack, h]

/-- The slot and the reservation of a SALE whose slot is BOUND, given back (R64, R69, R106, R131). -/
theorem giveBack_of_sale {s : State} {l m : LineId} {n : SlotNo} {o : Order} (hmode : (s.line l).delivery.mode = some .sale)
    (hslot : (s.line l).delivery.slot = some n) (hbound : s.orders.slot n = .bound m o) : s.giveBack l =
      { s with
        orders := { s.orders with slots := s.orders.slots.set n.val (.waiting o) n.isLt }
        journal := { s.journal with reservations := s.journal.reservations - 1 } } := by
  simp only [State.giveBack, hmode, hslot, OrderTable.release, hbound]
  rfl

theorem endLine_settles {c : EndCause} {l : LineId} {w : Work}
    (h : (w.st.line l).state = .flowing ∨ (w.st.line l).state = .paused ∨ (w.st.line l).state = .halted
      ∨ (w.st.line l).state = .armed ∧ 0 < (w.st.line l).delivery.counts.g) :
    endLine c l w = (lineReply l, ⟨w.st.setLine l (settled c (w.st.line l)),
      w.notes ++ lineNotices l (settled c (w.st.line l)) false⟩) := by
  have hsettle : (w.st.line l).state ≠ .settling := by
    rcases h with h | h | h | ⟨h, -⟩ <;> rw [h] <;> nofun
  rw [← settleLine_eq l c w hsettle, endLine]
  rcases h with h | h | h | ⟨h, hg⟩ <;> simp only [h]
  rw [if_neg (Nat.pos_iff_ne_zero.mp hg)]

theorem endLine_releases {c : EndCause} {l : LineId} {w : Work} (hst : (w.st.line l).state = .armed)
    (hg : (w.st.line l).delivery.counts.g = 0) : endLine c l w = (lineReply l, w.release l) := by
  rw [endLine]
  simp only [hst, hg, if_true]

theorem endLine_ending {c : EndCause} {l : LineId} {w : Work}
    (h : (w.st.line l).state = .settling ∨ (w.st.line l).state = .recording) :
    endLine c l w = (.accepted alreadyEnding (beBytes 1 (lineNo l)), w) := by
  rw [endLine]
  rcases h with h | h <;> simp only [h]

theorem endLine_busy {c : EndCause} {l : LineId} {w : Work}
    (h : (w.st.line l).state = .idle ∨ (w.st.line l).state = .unverified) :
    endLine c l w = (.refused (w.st.line l).state.busyCode, w) := by
  rw [endLine]
  rcases h with h | h <;> simp only [h]

/-- A request whose owner settles a line: END and STOP_LINE. -/
theorem request_settles {link : Link} {k : RequestKind} {body : List Byte} {own : Work → Reply × Work} {s : State} {l : LineId}
    {c : EndCause} (htakes : Takes s link k) (hown : ∀ w, own w = endLine c l w)
    (h : (s.line l).state = .flowing ∨ (s.line l).state = .paused ∨ (s.line l).state = .halted
      ∨ (s.line l).state = .armed ∧ 0 < (s.line l).delivery.counts.g) :
    request link k body own s = .next (State.drive { s with
      lines := s.lines.set l (settled c (s.line l))
      links := told s link k body (.ok (beBytes 1 (lineNo l))) (lineNotices l (settled c (s.line l)) false) }) := by
  refine request_told htakes (t := (asked s link k body).setLine l (settled c (s.line l))) ?_ rfl rfl
  rw [hown, endLine_settles (w := ⟨asked s link k body, []⟩) h]
  rfl

/-- What a release gives back lies in the order table and the journal, and the front does not come into it. -/
theorem giveBack_form (s : State) (l : LineId) : ∃ o j, s.giveBack l = { s with orders := o, journal := j } ∧
    ∀ link f, (s.setFront link f).giveBack l = { s.setFront link f with orders := o, journal := j } := by
  unfold State.giveBack
  simp only [State.setFront_line]
  split
  · exact ⟨_, _, rfl, fun _ _ => rfl⟩
  · exact ⟨s.orders, s.journal, rfl, fun _ _ => rfl⟩

/-- A request whose owner releases a line: END, STOP_LINE and DISARM. -/
theorem request_releases {link : Link} {k : RequestKind} {body : List Byte} {own : Work → Reply × Work} {s : State} {l : LineId}
    (htakes : Takes s link k) (hst : (s.line l).state = .armed)
    (hown : own ⟨asked s link k body, []⟩ = (lineReply l, Work.release l ⟨asked s link k body, []⟩)) :
    request link k body own s = .next (State.drive { s.giveBack l with
      lines := s.lines.set l (freed (s.releasedState l) (withoutTopUp (s.line l)))
      links := told s link k body (.ok (beBytes 1 (lineNo l)))
        (lineNotices l (freed (s.releasedState l) (withoutTopUp (s.line l))) false) }) := by
  obtain ⟨o, j, hplain, hfront⟩ := giveBack_form s l
  have hrelease := release_eq l ⟨asked s link k body, []⟩ hst
  have hasked : (asked s link k body).giveBack l = { asked s link k body with orders := o, journal := j } := hfront link _
  simp only [hasked] at hrelease
  rw [hplain]
  exact request_told htakes (hown.trans (congrArg _ hrelease)) rfl rfl

/-- Settles O24: END and STOP_LINE settle or release, DISARM releases, all by the same two lemmas. -/
theorem endStopDisarm : Obligations.EndStopDisarm := by
  intro link body s l hparse d settle back ln release
  have hback : s.releasedState l = back := releasedState_eq s l
  have hrelease : ∀ {k : RequestKind} {c : Instr} {own : Work → Reply × Work}, Takes s link k →
      exec c s = request link k body own s →
      ((s.line l).state = .armed → (s.line l).delivery.counts.g = 0 →
        own ⟨asked s link k body, []⟩ = (lineReply l, Work.release l ⟨asked s link k body, []⟩)) → release c k := by
    intro k c own htakes hexec hown hst hg
    have hnext := request_releases htakes hst (hown hst hg)
    rw [hback] at hnext
    refine ⟨fun hmode => ?_, fun n m o hmode hslot hbound => ?_⟩
    · rw [hexec, hnext, giveBack_of_test hmode]
      rfl
    · rw [hexec, hnext, giveBack_of_sale hmode hslot hbound]
      rfl
  refine ⟨fun htakes => ⟨?_, ?_⟩, fun htakes => ⟨?_, ?_⟩, fun htakes => ?_⟩
  · exact request_settles htakes fun w => by simp only [ownEndDelivery, hparse]
  · exact hrelease htakes rfl fun hst hg => by
      simp only [ownEndDelivery, hparse]
      exact endLine_releases hst hg
  · exact request_settles htakes fun w => by simp only [ownStopLine, hparse]
  · exact hrelease htakes rfl fun hst hg => by
      simp only [ownStopLine, hparse]
      exact endLine_releases hst hg
  · exact hrelease htakes rfl fun hst hg => by
      simp only [ownDisarm, hparse]
      exact if_pos ⟨hst, hg⟩

/-! ## Requests turned away (R41, R51, R53, R54, R61 to R66, R72) -/

/-- Settles O25: each owner's clause for the states it does not take. -/
theorem lineRequestsTurnedAway : Obligations.LineRequestsTurnedAway := by
  intro link body s l st busy blocked ending already
  have hbusy : Reply.refused st.busyCode = busy := by rw [busyCode_eq]
  refine ⟨fun htakes hparse => ⟨fun hst => ?_, fun c hst hblock => ?_⟩,
    fun htakes hparse => ⟨fun hst => ?_, fun c hst hblock => ?_⟩, fun amount htakes hparse h1 h2 h3 => ?_,
    fun htakes hparse => ⟨fun hend => ?_, fun hst => ?_⟩, fun htakes hparse => ⟨fun hend => ?_, fun hst => ?_⟩,
    fun htakes hparse hst => ?_⟩
  · refine request_answered htakes ?_
    simp only [ownStart, hparse]
    exact (goFrom_busy hst).trans (congrArg (·, _) hbusy)
  · refine request_answered htakes ?_
    simp only [ownStart, hparse]
    exact goFrom_blocked hst hblock
  · refine request_answered htakes ?_
    simp only [ownResume, hparse]
    exact (goFrom_busy hst).trans (congrArg (·, _) hbusy)
  · refine request_answered htakes ?_
    simp only [ownResume, hparse]
    exact goFrom_blocked hst hblock
  · refine request_answered htakes ?_
    have hadd : ((asked s link .add body).line l).state.takesAdd = false :=
      Bool.eq_false_iff.mpr fun h => ((takesAdd_iff _).mp h).elim h1 fun h => h.elim h2 h3
    simp only [ownAdd, hparse, hadd, Bool.not_false, if_true]
    exact congrArg (·, _) hbusy
  · refine request_answered htakes ?_
    simp only [ownEndDelivery, hparse]
    exact endLine_ending hend
  · refine request_answered htakes ?_
    simp only [ownEndDelivery, hparse]
    exact (endLine_busy hst).trans (congrArg (·, _) hbusy)
  · refine request_answered htakes ?_
    simp only [ownStopLine, hparse]
    exact endLine_ending hend
  · refine request_answered htakes ?_
    simp only [ownStopLine, hparse]
    exact (endLine_busy hst).trans (congrArg (·, _) hbusy)
  · refine request_answered htakes ?_
    simp only [ownDisarm, hparse]
    exact (if_neg hst).trans (congrArg (·, _) hbusy)

end Sys2Proof.Safety
end

section
/-! PROOF. The requests to the order table, the plans, the settings, the clock, the journal, the fault log and the
calibration unit. -/

namespace Sys2Proof.Safety

open Sys2Proof.Machine

/-! ## Searches over the slots in ascending order -/

/-- A search over the slots finds the lowest one that passes. -/
theorem find_slot_iff {p : SlotNo → Bool} {n : SlotNo} :
    allSlots.find? p = some n ↔ p n = true ∧ ∀ m, m < n → p m = false := by
  rw [List.find?_eq_some_iff_getElem]
  refine and_congr_right fun _ => ⟨fun ⟨i, hi, hn, hlow⟩ m hm => ?_, fun hlow => ?_⟩
  · have hval : n.val = i := by rw [← hn]; simp [allSlots]
    have hm : m.val < i := hval ▸ hm
    simpa [allSlots] using hlow m.val hm
  · refine ⟨n.val, by simp [allSlots], by simp [allSlots], fun j hj => ?_⟩
    have hj24 : j < 24 := hj.trans n.isLt
    simpa [allSlots] using hlow ⟨j, hj24⟩ hj

theorem find_slot_none {p : SlotNo → Bool} : allSlots.find? p = none ↔ ∀ m, p m = false := by
  simp [allSlots, List.find?_eq_none]

/-- An order id is in the table's slot (R97 check 2). -/
theorem holdsId_iff (x : Slot) (id : Nat) : x.order?.any (fun o => o.copy.orderId.toNat == id) = false ↔
    ∀ o, x.order? = some o → o.copy.orderId.toNat ≠ id := by
  cases x.order? <;> simp

theorem find_none_iff (t : OrderTable) (id : Nat) : t.find id = none ↔
    ∀ m o, (t.slot m).order? = some o → o.copy.orderId.toNat ≠ id := by
  simp only [OrderTable.find, find_slot_none, holdsId_iff]

theorem find_some_of {t : OrderTable} {id : Nat} {n : SlotNo} {o : Order} (hn : (t.slot n).order? = some o)
    (hid : o.copy.orderId.toNat = id)
    (hlow : ∀ m q, m < n → (t.slot m).order? = some q → q.copy.orderId.toNat ≠ id) : t.find id = some n := by
  rw [OrderTable.find, find_slot_iff]
  refine ⟨by simp [hn, hid], fun m hm => ?_⟩
  rw [holdsId_iff]
  exact fun q hq => hlow m q hm hq

theorem isFree_iff (x : Slot) : x.isFree = true ↔ x = .free := by cases x <;> simp [Slot.isFree]

theorem lowestFree_none_iff (t : OrderTable) : t.lowestFree = none ↔ ∀ m, t.slot m ≠ .free := by
  simp only [OrderTable.lowestFree, find_slot_none, ← Bool.not_eq_true, isFree_iff, ne_eq]

theorem lowestFree_of {t : OrderTable} {n : SlotNo} (hn : t.slot n = .free) (hlow : ∀ m, m < n → t.slot m ≠ .free) :
    t.lowestFree = some n := by
  rw [OrderTable.lowestFree, find_slot_iff]
  refine ⟨(isFree_iff _).mpr hn, fun m hm => ?_⟩
  rw [← Bool.not_eq_true, isFree_iff]
  exact hlow m hm

/-! ## LOAD_ORDER and WITHDRAW_ORDER (R97 to R100) -/

/-- Settles O12: the id decides, then the lowest FREE slot. -/
theorem loadOrderTakesLowestFreeSlot : Obligations.LoadOrderTakesLowestFreeSlot := by
  intro link body s o htakes hparse fresh
  have hfind : fresh ↔ s.orders.find o.orderId.toNat = none := by
    simp only [find_none_iff, fresh, ne_eq, BitVec.toNat_inj]
  refine ⟨fun hheld => ?_, fun hfresh hfull => ?_, fun n hfresh hfree hlow => ?_⟩
  · refine request_answered htakes ?_
    have hsome : ((asked s link .loadOrder body).orders.find o.orderId.toNat).isSome = true :=
      Option.isSome_iff_ne_none.mpr (hheld ∘ hfind.mpr)
    simp only [ownLoadOrder, hparse, hsome, if_true]
  · refine request_answered htakes ?_
    have hnone : (asked s link .loadOrder body).orders.find o.orderId.toNat = none := hfind.mp hfresh
    have hlowest : (asked s link .loadOrder body).orders.lowestFree = none := (lowestFree_none_iff _).mpr hfull
    simp only [ownLoadOrder, hparse, hnone, hlowest]
    rfl
  · refine request_told htakes (t := { asked s link .loadOrder body with orders := s.orders.place n o s.stamp }) ?_ rfl rfl
    have hnone : (asked s link .loadOrder body).orders.find o.orderId.toNat = none := hfind.mp hfresh
    have hlowest : (asked s link .loadOrder body).orders.lowestFree = some n := lowestFree_of hfree hlow
    simp only [ownLoadOrder, hparse, hnone, hlowest]
    rfl

/-- Settles O13: the slot that holds the id decides. -/
theorem withdrawOrderByState : Obligations.WithdrawOrderByState := by
  intro link body s id htakes hparse first
  refine ⟨fun n o hslot hfirst => ?_, fun n l o hslot hfirst => ?_, fun hnone => ?_⟩
  · refine request_told htakes (t := { asked s link .withdrawOrder body with orders := s.orders.setSlot n .free }) ?_ rfl rfl
    have hfind : (asked s link .withdrawOrder body).orders.find id = some n :=
      find_some_of (o := o) (by rw [asked, State.setFront_orders, hslot]; rfl) hfirst.1 hfirst.2
    have hstate : (asked s link .withdrawOrder body).orders.slot n = .waiting o := hslot
    simp only [ownWithdrawOrder, hparse, hfind, hstate]
    rfl
  · refine request_answered htakes ?_
    have hfind : (asked s link .withdrawOrder body).orders.find id = some n :=
      find_some_of (o := o) (by rw [asked, State.setFront_orders, hslot]; rfl) hfirst.1 hfirst.2
    have hstate : (asked s link .withdrawOrder body).orders.slot n = .bound l o := hslot
    simp only [ownWithdrawOrder, hparse, hfind, hstate]
    rfl
  · refine request_answered htakes ?_
    have hfind : (asked s link .withdrawOrder body).orders.find id = none := (find_none_iff _ _).mpr hnone
    simp only [ownWithdrawOrder, hparse, hfind]

/-! ## Plans and settings (R114, R115, R149) -/

theorem openOnlyLast_iff (ts : List Tier) : openOnlyLast ts = true ↔ ∀ t ∈ ts.dropLast, t.bound ≠ none := by
  induction ts with
  | nil => simp [openOnlyLast]
  | cons t ts ih =>
    cases ts with
    | nil => simp [openOnlyLast]
    | cons u us => simp [openOnlyLast, ih, Option.isSome_iff_ne_none]

theorem ascending_iff (ns : List Nat) : ascending ns = true ↔ ns.Pairwise (· < ·) := by
  rw [← List.isChain_iff_pairwise]
  induction ns with
  | nil => simp [ascending]
  | cons a ns ih =>
    cases ns with
    | nil => simp [ascending]
    | cons b ns => simp [ascending, ih]

/-- Checks 4 and 5 of R114. -/
theorem planInOrder_iff (ts : List Tier) : planInOrder ts = true ↔
    (∀ t ∈ ts.dropLast, t.bound ≠ none) ∧ (ts.filterMap Tier.bound).Pairwise (fun a b => a.toNat < b.toNat) := by
  have hmap : ts.filterMap (fun t => t.bound.map BitVec.toNat) = (ts.filterMap Tier.bound).map BitVec.toNat := by
    rw [List.map_filterMap]
  rw [planInOrder, Bool.and_eq_true, openOnlyLast_iff, ascending_iff, hmap, List.pairwise_map]

/-- Settles O14: a plan by its order, the settings always. -/
theorem planAndSettingsReplacedWhole : Obligations.PlanAndSettingsReplacedWhole := by
  intro link body s
  refine ⟨fun n ts htakes hparse => ?_, fun p c htakes hparse => ?_⟩
  · refine ⟨fun hgood => ?_, fun hbad => ?_⟩
    · refine request_told htakes (t := (asked s link .writePlan body).setPlan n ts) ?_ rfl rfl
      simp only [ownWritePlan, hparse, (planInOrder_iff ts).mpr hgood, if_true]
      rfl
    · refine request_answered htakes ?_
      simp only [ownWritePlan, hparse, if_neg (hbad ∘ (planInOrder_iff ts).mp)]
  · refine request_told htakes (t := { asked s link .writeProductSettings body with
      cal := { s.cal with settings := s.cal.settings.set p c } }) ?_ rfl rfl
    simp only [ownWriteProductSettings, hparse]
    rfl

/-! ## The clock (R183) -/

/-- Settles O15: the wrap is the modulus of the count. -/
theorem clockIsSetAndCounts : Obligations.ClockIsSetAndCounts := by
  refine ⟨fun link body s t htakes hparse => ?_, fun s hrun => ?_⟩
  · refine request_told htakes (t := { asked s link .setClock body with
      restart := { s.restart with time := t, clockValid := true } }) ?_ rfl rfl
    simp only [ownSetClock, hparse]
    rfl
  · have hcount : (s.restart.time + 1) % 4294967296
        = if s.restart.time % 4294967296 = 4294967295 then 0 else (s.restart.time + 1) % 4294967296 := by
      split <;> omega
    refine (event_mapSt _ s).trans (next_drive ?_)
    rw [if_pos hrun, ← hcount]

/-! ## ACK_TICKETS (R135) -/

/-- A number beyond the journal (R135). -/
theorem beyond_iff (h : JournalHeader) (n : Nat) : h.beyond n = true ↔
    (h.count = 0 ∧ 0 < n) ∨ (h.count ≠ 0 ∧ h.oldestNumber + h.count - 1 < n) := by
  unfold JournalHeader.beyond JournalHeader.newest?
  by_cases hc : h.count = 0 <;> simp [hc]

/-- Settles O16: by the newest number, then by what is transferred. -/
theorem ackMarksPrefix : Obligations.AckMarksPrefix := by
  intro link body s n htakes hparse hle h
  refine ⟨fun hbeyond => ?_, fun hnothing => ?_, fun hcount hnewest hn hopen hall => ?_⟩
  · refine request_answered htakes ?_
    have hb : (asked s link .ackTickets body).journal.header.beyond n = true := (beyond_iff h n).mpr hbeyond
    simp only [ownAckTickets, hparse, hb, if_true]
  · refine request_answered htakes ?_
    have hb : (asked s link .ackTickets body).journal.header.beyond n = false := by
      rw [← Bool.not_eq_true]
      refine (beyond_iff h n).not.mpr ?_
      omega
    have hacked : (asked s link .ackTickets body).journal.header.acked n
        = (asked s link .ackTickets body).journal.header.transferred := if_pos (by
      change n = 0 ∨ n < h.oldestNumber + h.transferred ∨ h.transferred = h.count
      change h.transferred ≤ h.count at hle
      omega)
    simp only [ownAckTickets, hparse, hb, hacked, Nat.sub_self, summary_eq, laid_eq]
    rfl
  · refine request_told htakes (t := { asked s link .ackTickets body with
      journal := { s.journal with header := { h with transferred := n - h.oldestNumber + 1 } } }) ?_ rfl rfl
    have hb : (asked s link .ackTickets body).journal.header.beyond n = false := by
      rw [← Bool.not_eq_true]
      refine (beyond_iff h n).not.mpr ?_
      omega
    have hacked : (asked s link .ackTickets body).journal.header.acked n = n - h.oldestNumber + 1 := if_neg (by
      change ¬ (n = 0 ∨ n < h.oldestNumber + h.transferred ∨ h.transferred = h.count)
      omega)
    simp only [ownAckTickets, hparse, hb, hacked, summary_eq, laid_eq]
    rfl

/-! ## CLEAR_FAULT_LOG (R203) -/

/-- A unit handed to an IDLE engine goes in flight (R138). -/
theorem hand_idle {s : State} (h : s.engine.state = .idle) (u : WriteUnit) : s.hand u = s.goInFlight u := by
  rw [State.hand, h]

/-- A unit handed to a WRITING engine with a place waits (R138). -/
theorem hand_writing {s : State} (h : s.engine.state = .writing) (hroom : s.engine.queue.length < 4) (u : WriteUnit) :
    s.hand u = { s with engine := { s.engine with queue := s.engine.queue ++ [u] } } := by
  unfold State.hand
  split
  case h_2 => exact if_pos hroom
  all_goals rename_i hother; exact absurd (h.symm.trans hother) nofun

theorem hand_links_comm (s : State) (u : WriteUnit) (x : PerLink LinkFront) :
    ({ s with links := x } : State).hand u = { s.hand u with links := x } := by
  simp only [State.hand]
  cases s.engine.state
  case writing => dsimp only; split <;> rfl
  all_goals rfl

theorem clearFaults_eq (s : State) : s.clearFaults =
    if s.faultLog.outstanding = none ∧ s.engine.takesFaultLog = true
    then State.handFaultLog { s with faultLog := ⟨[], [], 0, none, false⟩ }
    else { s with faultLog := ⟨[], [], 0, s.faultLog.outstanding, true⟩ } := by
  simp only [State.clearFaults, State.placeFree, State.offerFaultLog, Bool.true_and, Option.isNone_iff_eq_none]
  by_cases hout : s.faultLog.outstanding = none
  · simp only [hout, if_true, true_and]
    rfl
  · simp only [hout, if_false, false_and]

theorem clearFaults_links_comm (s : State) (x : PerLink LinkFront) :
    ({ s with links := x } : State).clearFaults = { s.clearFaults with links := x } := by
  simp only [clearFaults_eq]
  split
  · exact hand_links_comm { s with faultLog := ⟨[], [], 0, some .queued, false⟩ } .faultLog x
  · rfl

/-- Settles O17: the switch decides, then the engine. -/
theorem faultLogCleared : Obligations.FaultLogCleared := by
  intro link s htakes
  refine ⟨fun hclosed => ?_, fun hopen => ?_⟩
  · refine request_answered htakes ?_
    have hswitch : (asked s link .clearFaultLog []).inputs.inspectionOpen = false := hclosed
    simp only [ownClearFaultLog, hswitch, Bool.not_false, if_true]
  · intro s1 s2
    refine (request_told htakes (t := { s2 with links := (asked s link .clearFaultLog []).links }) ?_ rfl ?_).trans rfl
    · have hswitch : (asked s link .clearFaultLog []).inputs.inspectionOpen = true := hopen
      have hclear : (asked s link .clearFaultLog []).clearFaults = { s.clearFaults with links := (asked s link .clearFaultLog []).links } :=
        clearFaults_links_comm s _
      simp only [ownClearFaultLog, hswitch, parseEmpty, Work.mapSt, hclear, clearFaults_eq]
      rfl
    · change s2.restart.phase = _
      simp only [s2, s1]
      split
      · rw [State.handFaultLog_restart]
      · rfl

/-! ## WRITE_RECORD (R151, R152) -/

theorem latches_iff (ln : Line) (l : LineId) (r : RecordId) : ln.latches l r = true ↔
    ln.state.holds = true ∧ (r = .line l ∨ r = .meter l ln.delivery.product ∨ r = .product ln.delivery.product) := by
  simp [Line.latches, latchedIds]

theorem acceptWrite_idle {s : State} (h : s.engine.state = .idle) (c : CalRecord) : s.acceptWrite c = { s with
    cal := { s.cal with pendingWrite := some (c.id, .inFlight) }
    engine := { s.engine with
      state := .writing
      inFlight := some ⟨s.calibrationUnit c, s.journal.header, s.journal.marks, s.faultLog.ring.map RingEntry.entry⟩ } } :=
  hand_idle (s := { s with cal := { s.cal with pendingWrite := some (c.id, .queued) } }) h (s.calibrationUnit c)

theorem acceptWrite_writing {s : State} (h : s.engine.state = .writing) (hroom : s.engine.queue.length < 4) (c : CalRecord) :
    s.acceptWrite c = { s with
      cal := { s.cal with pendingWrite := some (c.id, .queued) }
      engine := { s.engine with queue := s.engine.queue ++ [s.calibrationUnit c] } } :=
  hand_writing (s := { s with cal := { s.cal with pendingWrite := some (c.id, .queued) } }) h hroom (s.calibrationUnit c)

/-- Settles O26: the checks in their order, then the engine's state. -/
theorem recordWriteByChecks : Obligations.RecordWriteByChecks := by
  intro link body s htakes no
  refine ⟨fun hclosed => ?_, fun c hopen hparse => ?_⟩
  · refine request_answered htakes ?_
    have hswitch : (asked s link .writeRecord body).inputs.inspectionOpen = false := hclosed
    simp only [ownWriteRecord, hswitch, Bool.not_false, if_true]
  intro held
  have hswitch : (asked s link .writeRecord body).inputs.inspectionOpen = true := hopen
  have hheld : ((asked s link .writeRecord body).lines.a.latches .a c.id
      || (asked s link .writeRecord body).lines.b.latches .b c.id) = true ↔ held := by
    simp only [Bool.or_eq_true, latches_iff, held]
    refine ⟨fun h => h.elim (fun h => ⟨.a, h⟩) (fun h => ⟨.b, h⟩), fun ⟨l, h⟩ => ?_⟩
    cases l
    · exact .inl h
    · exact .inr h
  refine ⟨fun hin => ?_, fun hout hbusy => ?_, fun hout hfree hfull => ?_, fun hout hfree hroom => ?_⟩
  · refine request_answered htakes ?_
    simp only [ownWriteRecord, hswitch, hparse, if_pos (hheld.mpr hin)]
    rfl
  · refine request_answered htakes ?_
    have hpending : (asked s link .writeRecord body).cal.pendingWrite.isSome = true := Option.isSome_iff_ne_none.mpr hbusy
    simp only [ownWriteRecord, hswitch, hparse, if_neg (hheld.not.mpr hout), hpending]
    rfl
  · refine request_answered htakes ?_
    have hpending : (asked s link .writeRecord body).cal.pendingWrite = none := hfree
    have hcounter : counterLimit ≤ (asked s link .writeRecord body).store.eventCounter := hfull
    simp only [ownWriteRecord, hswitch, hparse, if_neg (hheld.not.mpr hout), hpending, hcounter, if_true]
    rfl
  intro counter check old unit links
  have hown : ownWriteRecord body ⟨asked s link .writeRecord body, []⟩
      = (.ok (beBytes 1 (recordNo c.id) ++ beBytes 4 counter), ⟨(asked s link .writeRecord body).acceptWrite c, []⟩) := by
    have hpending : (asked s link .writeRecord body).cal.pendingWrite = none := hfree
    have hcounter : ¬ counterLimit ≤ (asked s link .writeRecord body).store.eventCounter := Nat.not_le_of_lt hroom
    simp only [ownWriteRecord, hswitch, hparse, if_neg (hheld.not.mpr hout), hpending, hcounter, if_false]
    rfl
  refine ⟨fun hidle => ?_, fun hwriting hplace => ?_⟩
  · refine request_told htakes (t := { asked s link .writeRecord body with
        cal := { s.cal with pendingWrite := some (c.id, .inFlight) }
        engine := { s.engine with
          state := .writing
          inFlight := some ⟨unit, s.journal.header, s.journal.marks, s.faultLog.ring.map RingEntry.entry⟩ } })
      (hown.trans ?_) rfl rfl
    exact congrArg (fun t => (_, Work.mk t [])) (acceptWrite_idle (s := asked s link .writeRecord body) hidle c)
  · refine request_told htakes (t := { asked s link .writeRecord body with
        cal := { s.cal with pendingWrite := some (c.id, .queued) }
        engine := { s.engine with queue := s.engine.queue ++ [unit] } })
      (hown.trans ?_) rfl rfl
    exact congrArg (fun t => (_, Work.mk t [])) (acceptWrite_writing (s := asked s link .writeRecord body) hwriting hplace c)

end Sys2Proof.Safety
end

section
/-! PROOF. ARM and ARM_TEST: the checks in their order, and the record of an accepted one. -/

namespace Sys2Proof.Safety

open Sys2Proof.Machine

/-! ## The first targets (R83) -/

theorem ceilDiv_million (p : Nat) : Machine.ceilDiv (p * 1000000000) 1000000 = p * 1000 := by
  rw [Machine.ceilDiv]
  omega

/-- On either basis the first stop target is the preset total times 1,000. -/
theorem stopFor_zero {d : Delivery} {amount : Option Nat} (hvcf : d.corr.runVcf = 1000000)
    (hkind : d.preset.kind = some (if amount.isSome then .volume else .fill)) (hamount : d.preset.amount = amount) :
    d.stopFor 0 = amount.getD 9999999 * 1000 := by
  have htotal : d.presetTotal 0 = amount.getD 9999999 := by
    rw [presetTotal_eq, hkind, hamount]
    cases amount <;> simp
  rw [Delivery.stopFor, htotal, hvcf]
  split
  · rfl
  · exact ceilDiv_million _

/-- The record of a new delivery, in the words of chapters 3 and 4. -/
theorem newDelivery_eq (mode : Mode) (slot : Option SlotNo) (p : Product) (x : Latched) (i : Identity) (t : Option Nat)
    (tot : Nat) (amount : Option Nat) :
    newDelivery mode slot p x i t tot (if amount.isSome then .volume else .fill) amount
      = armedDelivery mode slot p x i t tot amount := by
  rw [newDelivery, Delivery.firstTargets, Delivery.slowFor, stopFor_zero (amount := amount) rfl rfl rfl]
  rfl

theorem saleDelivery_eq (s : State) (l : LineId) (n : SlotNo) (o : Order) : s.saleDelivery l n o =
    armedDelivery .sale (some n) o.copy.product
      (copies s l o.copy.product (some o.copy) (o.copy.plan.map (fun k => ⟨k, s.plan k⟩)))
      ⟨s.store.eventCounter, s.store.checksum⟩ s.stamp (s.line l).totalizer
      (if o.copy.kind = .volume then some o.copy.amount.toNat else none) := by
  rw [← newDelivery_eq, State.saleDelivery]
  cases o.copy.kind <;> rfl

theorem testDelivery_eq (s : State) (l : LineId) (p : Product) (preset : Option Nat) : s.testDelivery l p preset =
    armedDelivery .test none p (copies s l p none none) ⟨s.store.eventCounter, s.store.checksum⟩ s.stamp
      (s.line l).totalizer preset :=
  newDelivery_eq .test none p _ _ _ _ preset

/-! ## The checks -/

theorem pairingValid_iff (s : State) (l : LineId) (p : Product) : s.pairingValid l p = true ↔
    (s.cal.shadows.product.get p).valid = true ∧ ((s.cal.shadows.meter.get l).get p).valid = true := by
  rw [State.pairingValid, Bool.and_eq_true]

theorem pairingBusy_iff (s : State) (l : LineId) (p : Product) : s.pairingBusy l p = true ↔
    ∃ w, s.cal.pendingWrite = some (.line l, w) ∨ s.cal.pendingWrite = some (.meter l p, w)
      ∨ s.cal.pendingWrite = some (.product p, w) := by
  unfold State.pairingBusy
  rcases s.cal.pendingWrite with - | ⟨r, w⟩
  · simp
  · simp [latchedIds, exists_or]

theorem mismatched_nil_iff (s : State) (l : LineId) (p : Product) : s.mismatched (latchedIds l p) = [] ↔ Swept s l p := by
  simp [State.mismatched, latchedIds, Swept, agrees, RecordSet.check]

theorem planMissing_iff (s : State) (o : OrderCopy) : s.planMissing o = true ↔ ∃ k, o.plan = some k ∧ s.plan k = [] := by
  unfold State.planMissing
  cases o.plan with
  | none => simp
  | some k => simp [State.plan]

theorem grant_none_iff (j : Journal) : j.grant = none ↔ 4294967295 < j.nextNumber + j.reservations ∨
    256 ≤ j.header.count + j.reservations ∧ (j.header.count = 0 ∨ j.header.transferred = 0) := by
  unfold Journal.grant
  rw [max32]
  split
  · simp [*]
  split
  · simp; omega
  split
  · simp; omega
  · simp; omega

/-- Check 9 passed: the journal as it is, or without its oldest entry (R130). -/
theorem grant_some {j : Journal} (hnumber : j.nextNumber + j.reservations ≤ 4294967295)
    (hplace : j.header.count + j.reservations < 256 ∨ 0 < j.header.count ∧ 0 < j.header.transferred) :
    j.grant = some { j with header := if j.header.count + j.reservations < 256 then j.header else
      ⟨(j.header.oldestPlace + 1) % 256, j.header.count - 1, j.header.oldestNumber + 1, j.header.transferred - 1⟩ } := by
  rw [Journal.grant, max32, if_neg (Nat.not_lt_of_le hnumber)]
  by_cases hroom : j.header.count + j.reservations < 256
  · rw [if_pos hroom, if_pos hroom]
  · rw [if_neg hroom, if_neg hroom, if_pos (hplace.resolve_left hroom)]
    rfl

theorem Pairs.valid {s : State} {l : LineId} {p : Product} (h : Pairs s l p) : s.pairingValid l p = true :=
  (pairingValid_iff s l p).mpr ⟨h.product, h.meter⟩

theorem Pairs.notBusy {s : State} {l : LineId} {p : Product} (h : Pairs s l p) : s.pairingBusy l p = false := by
  rw [← Bool.not_eq_true, pairingBusy_iff]
  rintro ⟨w, hw | hw | hw⟩
  · exact (h.quiet _ _ hw).1 rfl
  · exact (h.quiet _ _ hw).2.1 rfl
  · exact (h.quiet _ _ hw).2.2 rfl

/-! ## The acceptance -/

/-- A line that is not ARMED takes a new delivery (R7, R46, R50). -/
theorem begin_arm (l : LineId) (d : Delivery) (w : Work) (hst : (w.st.line l).state ≠ .armed)
    (hclosed : d.preset.stage = .closed) :
    (w.setLine l ((w.st.line l).begin d)).changeState l .armed false =
      ⟨w.st.setLine l (armed d (w.st.line l)), w.notes ++ lineNotices l (armed d (w.st.line l)) false⟩ := by
  have hline : (w.setLine l ((w.st.line l).begin d)).st.line l = (w.st.line l).begin d := State.setLine_line _ _ _
  rw [Work.changeState_ne _ _ _ _ (by rw [hline]; exact hst), hline, enter_armed _ _ hclosed, lineNotices_eq]
  congr 1
  exact setLine_setLine _ _ _ _

theorem acceptArm_eq (l : LineId) (n : SlotNo) (o : Order) (j : Journal) (w : Work) (hst : (w.st.line l).state ≠ .armed) :
    w.acceptArm l n o j =
      let ln := armed (w.st.saleDelivery l n o) (w.st.line l)
      ⟨{ w.st with lines := w.st.lines.set l ln, orders := w.st.orders.bind n l o, journal := j.reserve },
        w.notes ++ lineNotices l ln false⟩ :=
  begin_arm l (w.st.saleDelivery l n o)
    (w.mapSt fun s => { s with orders := s.orders.bind n l o, journal := j.reserve }) hst rfl

theorem acceptArmTest_eq (l : LineId) (p : Product) (preset : Option Nat) (w : Work) (hst : (w.st.line l).state ≠ .armed) :
    w.acceptArmTest l p preset =
      let ln := armed (w.st.testDelivery l p preset) (w.st.line l)
      ⟨w.st.setLine l ln, w.notes ++ lineNotices l ln false⟩ :=
  begin_arm l (w.st.testDelivery l p preset) w hst rfl

/-! ## ARM -/

section
variable {link : Link} {body : List Byte} {s : State} {l : LineId} {n : SlotNo} {o : Order}

/-- ARM on an IDLE line with the switch closed and no ESTOP, on a WAITING slot, is judged by checks 6 to 9. -/
theorem ownArm_waiting {w : Work} (hparse : parseArm body = some (l, n)) (hst : (w.st.line l).state = .idle)
    (hswitch : w.st.inputs.inspectionOpen = false) (hestop : w.st.inputs.estop = false)
    (hslot : w.st.orders.slot n = .waiting o) : ownArm body w = armWaiting l n o w := by
  simp only [ownArm, hparse, hst, ne_eq, not_true_eq_false, if_false, hswitch, hestop, Bool.false_eq_true, hslot]

/-- ARM past its sweep. -/
theorem armWaiting_swept {w : Work} (hpairs : Pairs w.st l o.copy.product) (hswept : Swept w.st l o.copy.product) :
    armWaiting l n o w = if w.st.planMissing o.copy then (.refused .planEmpty, w) else
      match w.st.journal.grant with
      | none => (.refused .journalFull, w)
      | some j =>
        (.ok (beBytes 1 (lineNo l) ++ beBytes 1 n.val ++ beBytes 4 o.copy.orderId.toNat), w.acceptArm l n o j) := by
  simp only [armWaiting, hpairs.valid, hpairs.notBusy, (mismatched_nil_iff _ _ _).mpr hswept]
  rfl

end

/-- Settles O18: every check passed, the record is the armed delivery. -/
theorem armFillsTheRecord : Obligations.ArmFillsTheRecord := by
  intro link body s l n o htakes hparse hst hswitch hestop hslot hpairs hswept hplan hnumber hplace h ln
  have hpairs' : Pairs (asked s link .arm body) l o.copy.product := ⟨hpairs.product, hpairs.meter, hpairs.quiet⟩
  have hgrant := grant_some (j := (asked s link .arm body).journal) hnumber hplace
  have hpresent : (asked s link .arm body).planMissing o.copy = false := by
    rw [← Bool.not_eq_true, planMissing_iff]
    exact fun ⟨k, hk, hempty⟩ => hplan k hk hempty
  have hline : ((asked s link .arm body).line l).state = .idle := hst
  have hown : ownArm body ⟨asked s link .arm body, []⟩ = _ :=
    (ownArm_waiting hparse hst hswitch hestop hslot).trans (armWaiting_swept hpairs' hswept)
  simp only [hpresent, hgrant, Bool.false_eq_true, if_false] at hown
  rw [acceptArm_eq _ _ _ _ _ (by rw [hline]; nofun), saleDelivery_eq] at hown
  exact request_told htakes hown rfl rfl

/-- ARM_TEST on an IDLE line with the switch open and no ESTOP is judged by checks 4 to 6. -/
theorem ownArmTest_idle {body : List Byte} {l : LineId} {p : Product} {preset : Option Nat} {w : Work}
    (hparse : parseArmTest body = some (l, p, preset)) (hst : (w.st.line l).state = .idle)
    (hswitch : w.st.inputs.inspectionOpen = true) (hestop : w.st.inputs.estop = false) :
    ownArmTest body w = armTestIdle l p preset w := by
  simp only [ownArmTest, hparse, hst, ne_eq, not_true_eq_false, if_false, hswitch, hestop, Bool.not_true,
    Bool.false_eq_true]

theorem armTestIdle_swept {l : LineId} {p : Product} {preset : Option Nat} {w : Work} (hpairs : Pairs w.st l p)
    (hswept : Swept w.st l p) : armTestIdle l p preset w =
      (.ok (beBytes 1 (lineNo l) ++ beBytes 1 (productNo p)), w.acceptArmTest l p preset) := by
  simp only [armTestIdle, hpairs.valid, hpairs.notBusy, (mismatched_nil_iff _ _ _).mpr hswept]
  rfl

/-- Settles O19: every check passed, the record is the armed delivery of a TEST. -/
theorem armTestFillsTheRecord : Obligations.ArmTestFillsTheRecord := by
  intro link body s l p preset htakes hparse hst hswitch hestop hpairs hswept ln
  have hpairs' : Pairs (asked s link .armTest body) l p := ⟨hpairs.product, hpairs.meter, hpairs.quiet⟩
  have hline : ((asked s link .armTest body).line l).state = .idle := hst
  have hown : ownArmTest body ⟨asked s link .armTest body, []⟩ = _ :=
    (ownArmTest_idle hparse hst hswitch hestop).trans (armTestIdle_swept hpairs' hswept)
  rw [acceptArmTest_eq _ _ _ _ (by rw [hline]; nofun), testDelivery_eq] at hown
  exact request_told htakes hown rfl rfl

/-! ## The checks in their order (R44, R45, R49) -/

section
variable {s : State} {l : LineId} {p : Product}

theorem pairingValid_eq_false
    (h : (s.cal.shadows.product.get p).valid = false ∨ ((s.cal.shadows.meter.get l).get p).valid = false) :
    s.pairingValid l p = false := by
  rw [State.pairingValid, Bool.and_eq_false_iff]
  exact h

/-- A request of an arming kind whose sweep finds a mismatch: refused, and the sweep carried out as a failed one (R45). -/
theorem request_failedSweep {link : Link} {k : RequestKind} {body : List Byte} {own : Work → Reply × Work} {rs : List RecordId}
    (htakes : Takes s link k) (hown : own ⟨asked s link k body, []⟩
      = (.refused .unverified, Work.failedSweep ((asked s link k body).mismatched rs) ⟨asked s link k body, []⟩)) :
    request link k body own s =
      let w := Work.failedSweep (disagreeing s rs) ⟨asked s link k body, []⟩
      .next (State.drive ((w.st.send link ⟨.reply, 0x81, [requestByte k, 0x06]⟩).sendNotices w.notes)) := by
  have hmismatched : disagreeing s rs = (asked s link k body).mismatched rs := disagreeing_eq s rs
  rw [request_taken _ _ _ _ _ htakes.running htakes.free htakes.marked, hmismatched]
  change Host.Outcome.next (((own ⟨asked s link k body, []⟩).2.st.send link
    ((own ⟨asked s link k body, []⟩).1.frame (requestByte k) .reply)).sendNotices
      (own ⟨asked s link k body, []⟩).2.notes).drive = _
  rw [hown]
  rfl

end

theorem busyCode_unverified {st : LineState} (h : st = .unverified) : st.busyCode = .unverified := by
  rw [h]
  rfl

theorem busyCode_lineBusy {st : LineState} (h : st ≠ .unverified) : st.busyCode = .lineBusy := by
  rw [busyCode_eq, if_neg h]

theorem ownArm_busy {body : List Byte} {l : LineId} {n : SlotNo} {w : Work} (hparse : parseArm body = some (l, n))
    (hst : (w.st.line l).state ≠ .idle) : ownArm body w = (.refused (w.st.line l).state.busyCode, w) := by
  simp only [ownArm, hparse, if_pos hst]

theorem ownArmTest_busy {body : List Byte} {l : LineId} {p : Product} {preset : Option Nat} {w : Work}
    (hparse : parseArmTest body = some (l, p, preset)) (hst : (w.st.line l).state ≠ .idle) :
    ownArmTest body w = (.refused (w.st.line l).state.busyCode, w) := by
  simp only [ownArmTest, hparse, if_pos hst]

/-- The checks of the pairing, which ARM and ARM_TEST share: refused before the sweep, or carried out as a failed sweep. -/
theorem armWaiting_invalid {l : LineId} {n : SlotNo} {o : Order} {w : Work}
    (h : w.st.pairingValid l o.copy.product = false) : armWaiting l n o w = (.refused .productUnverified, w) := by
  simp only [armWaiting, h, Bool.not_false, if_true]

theorem armWaiting_calBusy {l : LineId} {n : SlotNo} {o : Order} {w : Work}
    (h : w.st.pairingValid l o.copy.product = true) (hbusy : w.st.pairingBusy l o.copy.product = true) :
    armWaiting l n o w = (.refused .calBusy, w) := by
  simp only [armWaiting, h, hbusy, Bool.not_true, Bool.false_eq_true, if_false, if_true]

theorem armWaiting_unswept {l : LineId} {n : SlotNo} {o : Order} {w : Work} (hpairs : Pairs w.st l o.copy.product)
    (h : ¬ Swept w.st l o.copy.product) : armWaiting l n o w =
      (.refused .unverified, w.failedSweep (w.st.mismatched (latchedIds l o.copy.product))) := by
  have hbad : (w.st.mismatched (latchedIds l o.copy.product)).isEmpty = false := by
    rw [← Bool.not_eq_true, List.isEmpty_iff, mismatched_nil_iff]
    exact h
  simp only [armWaiting, hpairs.valid, hpairs.notBusy, hbad, Bool.not_true, Bool.not_false, Bool.false_eq_true, if_false,
    if_true]

theorem armWaiting_planEmpty {l : LineId} {n : SlotNo} {o : Order} {t : State} {ns : List Notice}
    (hpairs : Pairs t l o.copy.product) (hswept : Swept t l o.copy.product) (h : t.planMissing o.copy = true) :
    armWaiting l n o ⟨t, ns⟩ = (.refused .planEmpty, ⟨t, ns⟩) := by
  rw [armWaiting_swept (w := ⟨t, ns⟩) hpairs hswept]
  exact if_pos h

theorem armWaiting_journalFull {l : LineId} {n : SlotNo} {o : Order} {t : State} {ns : List Notice}
    (hpairs : Pairs t l o.copy.product) (hswept : Swept t l o.copy.product) (h : t.planMissing o.copy = false)
    (hfull : t.journal.grant = none) : armWaiting l n o ⟨t, ns⟩ = (.refused .journalFull, ⟨t, ns⟩) := by
  rw [armWaiting_swept (w := ⟨t, ns⟩) hpairs hswept]
  simp only [h, Bool.false_eq_true, if_false, hfull]

theorem armTestIdle_invalid {l : LineId} {p : Product} {preset : Option Nat} {w : Work}
    (h : w.st.pairingValid l p = false) : armTestIdle l p preset w = (.refused .productUnverified, w) := by
  simp only [armTestIdle, h, Bool.not_false, if_true]

theorem armTestIdle_calBusy {l : LineId} {p : Product} {preset : Option Nat} {w : Work}
    (h : w.st.pairingValid l p = true) (hbusy : w.st.pairingBusy l p = true) :
    armTestIdle l p preset w = (.refused .calBusy, w) := by
  simp only [armTestIdle, h, hbusy, Bool.not_true, Bool.false_eq_true, if_false, if_true]

theorem armTestIdle_unswept {l : LineId} {p : Product} {preset : Option Nat} {w : Work} (hpairs : Pairs w.st l p)
    (h : ¬ Swept w.st l p) : armTestIdle l p preset w =
      (.refused .unverified, w.failedSweep (w.st.mismatched (latchedIds l p))) := by
  have hbad : (w.st.mismatched (latchedIds l p)).isEmpty = false := by
    rw [← Bool.not_eq_true, List.isEmpty_iff, mismatched_nil_iff]
    exact h
  simp only [armTestIdle, hpairs.valid, hpairs.notBusy, hbad, Bool.not_true, Bool.not_false, Bool.false_eq_true, if_false,
    if_true]

/-- Settles O20: each clause is the check it names, the earlier ones passed. -/
theorem armChecksInOrder : Obligations.ArmChecksInOrder := by
  refine ⟨fun link body s l n htakes hparse => ?_, fun link body s l p preset htakes hparse => ?_⟩
  · intro no
    have refusedBy : ∀ {c}, ownArm body ⟨asked s link .arm body, []⟩ = (.refused c, ⟨asked s link .arm body, []⟩) → no c :=
      request_answered htakes
    refine ⟨fun hst => refusedBy ?_, fun hst hidle => refusedBy ?_, fun hst hopen => refusedBy ?_,
      fun hst hclosed hestop => refusedBy ?_, fun hst hclosed hestop => ⟨fun hslot => refusedBy ?_, fun m o hslot => refusedBy ?_,
        fun o hslot => ?_⟩⟩
    · rw [ownArm_busy hparse (by change (s.line l).state ≠ _; rw [hst]; nofun), busyCode_unverified (by exact hst)]
    · rw [ownArm_busy hparse hidle, busyCode_lineBusy (by exact hst)]
    · have hline : ((asked s link .arm body).line l).state = .idle := hst
      have hswitch : (asked s link .arm body).inputs.inspectionOpen = true := hopen
      simp only [ownArm, hparse, hline, ne_eq, not_true_eq_false, if_false, hswitch, if_true]
    · have hline : ((asked s link .arm body).line l).state = .idle := hst
      have hswitch : (asked s link .arm body).inputs.inspectionOpen = false := hclosed
      have hpressed : (asked s link .arm body).inputs.estop = true := hestop
      simp only [ownArm, hparse, hline, ne_eq, not_true_eq_false, if_false, hswitch, hpressed, Bool.false_eq_true, if_true]
    · have hline : ((asked s link .arm body).line l).state = .idle := hst
      have hswitch : (asked s link .arm body).inputs.inspectionOpen = false := hclosed
      have hpressed : (asked s link .arm body).inputs.estop = false := hestop
      have hfree : (asked s link .arm body).orders.slot n = .free := hslot
      simp only [ownArm, hparse, hline, ne_eq, not_true_eq_false, if_false, hswitch, hpressed, Bool.false_eq_true, hfree]
    · have hline : ((asked s link .arm body).line l).state = .idle := hst
      have hswitch : (asked s link .arm body).inputs.inspectionOpen = false := hclosed
      have hpressed : (asked s link .arm body).inputs.estop = false := hestop
      have hbound : (asked s link .arm body).orders.slot n = .bound m o := hslot
      simp only [ownArm, hparse, hline, ne_eq, not_true_eq_false, if_false, hswitch, hpressed, Bool.false_eq_true, hbound]
    intro p
    have hown : ownArm body ⟨asked s link .arm body, []⟩ = armWaiting l n o ⟨asked s link .arm body, []⟩ :=
      ownArm_waiting hparse hst hclosed hestop hslot
    have hasked : Pairs s l p → Pairs (asked s link .arm body) l p := fun h => ⟨h.product, h.meter, h.quiet⟩
    refine ⟨fun h => refusedBy ?_, fun hproduct hmeter hbusy => refusedBy ?_, fun hpairs hswept => ?_,
      fun hpairs hswept hempty => refusedBy ?_, fun hpairs hswept hplan hfull => refusedBy ?_⟩
    · exact hown.trans (armWaiting_invalid (pairingValid_eq_false (s := asked s link .arm body) h))
    · exact hown.trans (armWaiting_calBusy (w := ⟨asked s link .arm body, []⟩) ((pairingValid_iff _ _ _).mpr ⟨hproduct, hmeter⟩)
        ((pairingBusy_iff _ _ _).mpr hbusy))
    · exact request_failedSweep htakes (hown.trans (armWaiting_unswept (w := ⟨asked s link .arm body, []⟩) (hasked hpairs) hswept))
    · exact hown.trans (armWaiting_planEmpty (t := asked s link .arm body) (hasked hpairs) hswept ((planMissing_iff _ _).mpr hempty))
    · refine hown.trans (armWaiting_journalFull (t := asked s link .arm body) (hasked hpairs) hswept ?_ ((grant_none_iff _).mpr hfull))
      rw [← Bool.not_eq_true, planMissing_iff]
      exact fun ⟨k, hk, hempty⟩ => hplan k hk hempty
  · intro no
    have refusedBy : ∀ {c}, ownArmTest body ⟨asked s link .armTest body, []⟩ = (.refused c, ⟨asked s link .armTest body, []⟩) →
      no c := request_answered htakes
    refine ⟨fun hst => refusedBy ?_, fun hst hidle => refusedBy ?_, fun hst hclosed => refusedBy ?_,
      fun hst hopen hestop => refusedBy ?_, fun hst hopen hestop => ?_⟩
    · rw [ownArmTest_busy hparse (by change (s.line l).state ≠ _; rw [hst]; nofun), busyCode_unverified (by exact hst)]
    · rw [ownArmTest_busy hparse hidle, busyCode_lineBusy (by exact hst)]
    · have hline : ((asked s link .armTest body).line l).state = .idle := hst
      have hswitch : (asked s link .armTest body).inputs.inspectionOpen = false := hclosed
      simp only [ownArmTest, hparse, hline, ne_eq, not_true_eq_false, if_false, hswitch, Bool.not_false, if_true]
    · have hline : ((asked s link .armTest body).line l).state = .idle := hst
      have hswitch : (asked s link .armTest body).inputs.inspectionOpen = true := hopen
      have hpressed : (asked s link .armTest body).inputs.estop = true := hestop
      simp only [ownArmTest, hparse, hline, ne_eq, not_true_eq_false, if_false, hswitch, hpressed, Bool.not_true,
        Bool.false_eq_true, if_true]
    have hown : ownArmTest body ⟨asked s link .armTest body, []⟩ = armTestIdle l p preset ⟨asked s link .armTest body, []⟩ :=
      ownArmTest_idle hparse hst hopen hestop
    refine ⟨fun h => refusedBy ?_, fun hproduct hmeter hbusy => refusedBy ?_, fun hpairs hswept => ?_⟩
    · exact hown.trans (armTestIdle_invalid (pairingValid_eq_false (s := asked s link .armTest body) h))
    · exact hown.trans (armTestIdle_calBusy (w := ⟨asked s link .armTest body, []⟩)
        ((pairingValid_iff _ _ _).mpr ⟨hproduct, hmeter⟩) ((pairingBusy_iff _ _ _).mpr hbusy))
    · exact request_failedSweep htakes (hown.trans (armTestIdle_unswept (w := ⟨asked s link .armTest body, []⟩)
        ⟨hpairs.product, hpairs.meter, hpairs.quiet⟩ hswept))

end Sys2Proof.Safety
end

section
/-! PROOF. The link fronts: the judgement of a frame, the places of the transmit queue, the bytes of a frame. -/

namespace Sys2Proof.Safety

open Sys2Proof.Machine

/-! ## The judgement of a frame (R188 to R190) -/

theorem exec_requestCommand (k : RequestKind) (link : Link) (body : List Byte) (s : State) :
    exec (requestCommand k link body) s = request link k body (owner k link body) s := by
  cases k <;> rfl

theorem requestOf_requestByte (k : RequestKind) : requestOf? (requestByte k) = some k := by
  cases k <;> decide

theorem requestOf_eq_some_iff (kind : Byte) (k : RequestKind) : requestOf? kind = some k ↔ requestByte k = kind := by
  refine ⟨fun h => ?_, fun h => h ▸ requestOf_requestByte k⟩
  exact eq_of_beq (List.find?_some (p := fun k => requestByte k == kind) h)

theorem exec_unknownRequest_of_request {kind : Byte} {k : RequestKind} (h : requestOf? kind = some k) (link : Link)
    (body : List Byte) (s : State) : exec (.unknownRequest link kind body) s = exec (requestCommand k link body) s := by
  rw [exec_requestCommand]
  change takeFrame link kind body s = _
  rw [takeFrame, h]

theorem exec_unknownRequest_of_none {kind : Byte} (h : requestOf? kind = none) (link : Link) (body : List Byte) (s : State) :
    exec (.unknownRequest link kind body) s = .next (unknownFrame link kind s).drive := by
  change takeFrame link kind body s = _
  rw [takeFrame, h]

section
variable {s : State} {link : Link}

theorem toHunt_request : ((s.toHunt link).front link).request = (s.front link).request := by
  rw [State.toHunt, State.setFront_front]

theorem request_outside (h : s.restart.phase ≠ .running) (k : RequestKind) (body : List Byte) (own : Work → Reply × Work) :
    request link k body own s = .next (s.toHunt link).drive := if_pos h

theorem request_busy (h : s.restart.phase = .running) (hbusy : (s.front link).request ≠ none) (k : RequestKind)
    (body : List Byte) (own : Work → Reply × Work) :
    request link k body own s = .next ((s.toHunt link).judge link (requestByte k) .linkBusy).drive := by
  have hsome : ((s.toHunt link).front link).request.isSome = true := by
    rw [toHunt_request]
    exact Option.isSome_iff_ne_none.mpr hbusy
  simp only [request, State.toHunt_restart, h, hsome, ne_eq, not_true_eq_false, if_false, if_true]

theorem request_notPermitted {k : RequestKind} (h : s.restart.phase = .running) (hfree : (s.front link).request = none)
    (hmark : permitted k link = false) (body : List Byte) (own : Work → Reply × Work) :
    request link k body own s = .next ((s.toHunt link).judge link (requestByte k) .notPermitted).drive := by
  have hnone : ((s.toHunt link).front link).request.isSome = false := by rw [toHunt_request, hfree, Option.isSome_none]
  simp only [request, State.toHunt_restart, h, hnone, hmark, ne_eq, not_true_eq_false, if_false, Bool.false_eq_true,
    Bool.not_false, if_true]

theorem unknownFrame_outside (h : s.restart.phase ≠ .running) (kind : Byte) : unknownFrame link kind s = s.toHunt link := by
  simp only [unknownFrame, State.toHunt_restart, beq_eq_false_iff_ne.mpr h, Bool.not_false, if_true]

theorem unknownFrame_busy (h : s.restart.phase = .running) (hbusy : (s.front link).request ≠ none) (kind : Byte) :
    unknownFrame link kind s = (s.toHunt link).judge link kind .linkBusy := by
  have hsome : ((s.toHunt link).front link).request.isSome = true := by
    rw [toHunt_request]
    exact Option.isSome_iff_ne_none.mpr hbusy
  simp only [unknownFrame, State.toHunt_restart, h, hsome, beq_self_eq_true, Bool.not_true, Bool.false_eq_true, if_false,
    if_true]

theorem unknownFrame_free (h : s.restart.phase = .running) (hfree : (s.front link).request = none) (kind : Byte) :
    unknownFrame link kind s = (s.toHunt link).judge link kind .unknownRequest := by
  have hnone : ((s.toHunt link).front link).request.isSome = false := by rw [toHunt_request, hfree, Option.isSome_none]
  simp only [unknownFrame, State.toHunt_restart, h, hnone, beq_self_eq_true, Bool.not_true, Bool.false_eq_true, if_false]

end

/-- The refusal codes are numbered from 1 in the order of their table (R190). -/
theorem refusalTable_numbers : ∀ i : Fin 25, (refusalByte (refusalTable.get i)).toNat = i.val + 1 := by decide

/-- Settles O4: the tables by their entries, the judgement by the front's three conditions. -/
theorem frontJudgesFrames : Obligations.FrontJudgesFrames := by
  refine ⟨fun k => ⟨(requestRow_eq k).1, fun link => ?_⟩, fun kind k => ?_, fun i c h => ?_, fun c => ?_,
    fun k link body s => ⟨fun hout => ?_, fun hrun hbusy => ?_, fun hrun hfree hmark => ?_⟩, fun link kind body s =>
    ⟨fun k hk => exec_unknownRequest_of_request hk link body s, fun hk =>
      ⟨fun hrun hfree => ?_, fun hrun hbusy => ?_, fun hout => ?_⟩⟩⟩
  · rw [(requestRow_eq k).2 link, decide_eq_true_iff]
  · rw [requestOf_eq_some_iff, (requestRow_eq k).1]
  · obtain ⟨hi, hc⟩ := List.getElem?_eq_some_iff.mp h
    rw [← hc]
    exact refusalTable_numbers ⟨i, hi⟩
  · cases c <;> decide
  · rw [exec_requestCommand, request_outside hout]
  · rw [exec_requestCommand, request_busy hrun hbusy]
    rfl
  · rw [exec_requestCommand, request_notPermitted hrun hfree hmark]
    rfl
  · rw [exec_unknownRequest_of_none hk, unknownFrame_free hrun hfree]
    rfl
  · rw [exec_unknownRequest_of_none hk, unknownFrame_busy hrun hbusy]
    rfl
  · rw [exec_unknownRequest_of_none hk, unknownFrame_outside hout]

/-! ## The places of the transmit queue (R191, R192) -/

theorem removeFirst_of {α : Type} {p : α → Bool} {old new : List α} {y : α} (hy : p y = true) (hold : ∀ z ∈ old, p z = false) :
    removeFirst p (old ++ y :: new) = some (old ++ new) := by
  induction old with
  | nil => simp [removeFirst, hy]
  | cons x xs ih =>
    rw [List.forall_mem_cons] at hold
    simp [removeFirst, hold.1, ih hold.2]

theorem removeFirst_none_iff {α : Type} {p : α → Bool} {xs : List α} : removeFirst p xs = none ↔ ∀ z ∈ xs, p z = false := by
  induction xs with
  | nil => simp [removeFirst]
  | cons x xs ih =>
    cases hx : p x <;> simp [removeFirst, hx, ih]

/-- The first element that satisfies a proposition, by a test that decides it. -/
theorem removeFirst_decides {α : Type} {p : α → Bool} {P : α → Prop} (hp : ∀ z, p z = true ↔ P z) {old new : List α} {y : α}
    (h : P y ∧ ∀ z ∈ old, ¬ P z) : removeFirst p (old ++ y :: new) = some (old ++ new) :=
  removeFirst_of ((hp y).mpr h.1) fun z hz => Bool.not_eq_true _ ▸ (hp z).not.mpr (h.2 z hz)

theorem removeFirst_none_of {α : Type} {p : α → Bool} {P : α → Prop} (hp : ∀ z, p z = true ↔ P z) {xs : List α}
    (h : ∀ z ∈ xs, ¬ P z) : removeFirst p xs = none :=
  removeFirst_none_iff.mpr fun z hz => Bool.not_eq_true _ ▸ (hp z).not.mpr (h z hz)

theorem isNotice_iff (k : NoticeKind) (x : TxFrame) : x.isNotice k = true ↔ x.tag = .notice k := beq_iff_eq

theorem isRemovable_iff (x : TxFrame) : x.isRemovable = true ↔ ∃ k, k ≠ .startUp ∧ x.tag = .notice k := by
  unfold TxFrame.isRemovable
  split <;> simp_all

theorem isRefusal_iff (x : TxFrame) : x.isRefusal = true ↔ ∃ c, x.tag = .refusal c := by
  unfold TxFrame.isRefusal
  split <;> simp_all

/-- A queue that holds no notice but START_UP has none to give up (R192). -/
theorem removeNotice_none_iff (q : List TxFrame) : removeNotice q = none ↔ ∀ z ∈ q, z.isRemovable = false := by
  have hsub : ∀ k, k ≠ .startUp → (∀ z ∈ q, z.isRemovable = false) → removeFirst (TxFrame.isNotice k) q = none := by
    intro k hk h
    rw [removeFirst_none_iff]
    intro z hz
    rw [← Bool.not_eq_true, isNotice_iff]
    intro hzk
    exact absurd ((isRemovable_iff z).mpr ⟨k, hk, hzk⟩) (by simp [h z hz])
  refine ⟨fun h => ?_, fun h => ?_⟩
  · simp only [removeNotice, Option.orElse_eq_none] at h
    exact removeFirst_none_iff.mp h.2.2
  · simp only [removeNotice, hsub .runningTotal nofun h, hsub .faultRaised nofun h, removeFirst_none_iff.mpr h]
    rfl

theorem removeNotice_none_of {q : List TxFrame} (h : ∀ z ∈ q, ¬ ∃ k, k ≠ .startUp ∧ z.tag = .notice k) :
    removeNotice q = none :=
  (removeNotice_none_iff q).mpr fun z hz => Bool.not_eq_true _ ▸ (isRemovable_iff z).not.mpr (h z hz)

theorem startNext_eq (f : LinkFront) : f.startNext =
    if f.sending = none then { f with sending := f.queue.head?, queue := f.queue.tail } else f := by
  unfold LinkFront.startNext
  rcases f with ⟨rx, req, sending, q, lost⟩
  cases sending <;> cases q <;> rfl

/-- FRAME_TRANSMITTED with a frame on the wire (R189, R191). -/
theorem transmitted_eq {f : LinkFront} {x : TxFrame} (h : f.sending = some x) : f.transmitted =
    { f with
      sending := f.queue.head?
      queue := f.queue.tail
      request := if x.tag = .reply then none else f.request } := by
  rw [LinkFront.transmitted, h]
  dsimp only
  rw [startNext_eq, if_pos rfl]

theorem exec_frameTransmitted (link : Link) (s : State) : exec (.frameTransmitted link) s =
    .next (if s.restart.phase = .running then s.setFront link (s.front link).transmitted else s).drive := rfl

section
variable {room : Nat} {x : TxFrame} {f : LinkFront} {old new : List TxFrame} {y : TxFrame}

theorem enqueue_room (h : f.queue.length < room) : f.enqueue room x = { f with queue := f.queue ++ [x] } := if_pos h

/-- A full queue gives up a notice for any frame (R192). -/
theorem enqueue_givesUp {q : List TxFrame} (h : room ≤ f.queue.length) (hq : removeNotice f.queue = some q) :
    f.enqueue room x = { f with queue := q ++ [x], lost := if f.lost < 255 then f.lost + 1 else 255 } := by
  rw [LinkFront.enqueue, if_neg (Nat.not_lt_of_le h), hq]
  rfl

theorem enqueue_notice {k : NoticeKind} (h : room ≤ f.queue.length) (hq : removeNotice f.queue = none)
    (hx : x.tag = .notice k) : f.enqueue room x = { f with lost := if f.lost < 255 then f.lost + 1 else 255 } := by
  rw [LinkFront.enqueue, if_neg (Nat.not_lt_of_le h), hq, hx]
  rfl

theorem enqueue_refusal {c : RefusalCode} (h : room ≤ f.queue.length) (hq : removeNotice f.queue = none)
    (hx : x.tag = .refusal c) : f.enqueue room x = f := by
  rw [LinkFront.enqueue, if_neg (Nat.not_lt_of_le h), hq, hx]

theorem enqueue_reply {q : List TxFrame} (h : room ≤ f.queue.length) (hn : removeNotice f.queue = none)
    (hx : x.tag = .reply) (hq : removeRefusal f.queue = some q) : f.enqueue room x = { f with queue := q ++ [x] } := by
  rw [LinkFront.enqueue, if_neg (Nat.not_lt_of_le h), hn, hx]
  simp only [hq]

end

/-- The frame that R192 gives up: the oldest of a kind where one waits, else the oldest of the next kind. -/
theorem removeNotice_of {q old new : List TxFrame} {y : TxFrame} (hq : q = old ++ y :: new)
    (h : (y.tag = .notice .runningTotal ∧ ∀ z ∈ old, ¬ z.tag = .notice .runningTotal) ∨
      (∀ z ∈ q, ¬ z.tag = .notice .runningTotal) ∧ (y.tag = .notice .faultRaised ∧ ∀ z ∈ old, ¬ z.tag = .notice .faultRaised) ∨
      (∀ z ∈ q, ¬ z.tag = .notice .runningTotal) ∧ (∀ z ∈ q, ¬ z.tag = .notice .faultRaised) ∧
        ((∃ k, k ≠ .startUp ∧ y.tag = .notice k) ∧ ∀ z ∈ old, ¬ ∃ k, k ≠ .startUp ∧ z.tag = .notice k)) :
    removeNotice q = some (old ++ new) := by
  subst hq
  rcases h with hy | ⟨hnone, hy⟩ | ⟨hnone, hnone', hy⟩
  · rw [removeNotice, removeFirst_decides (isNotice_iff _) hy]
    rfl
  · rw [removeNotice, removeFirst_none_of (isNotice_iff _) hnone, removeFirst_decides (isNotice_iff _) hy]
    rfl
  · rw [removeNotice, removeFirst_none_of (isNotice_iff _) hnone, removeFirst_none_of (isNotice_iff _) hnone',
      removeFirst_decides isRemovable_iff hy]
    rfl

theorem removeRefusal_of {q old new : List TxFrame} {y : TxFrame} (hq : q = old ++ y :: new)
    (h : (y.tag = .refusal .linkBusy ∧ ∀ z ∈ old, ¬ z.tag = .refusal .linkBusy) ∨
      (∀ z ∈ q, ¬ z.tag = .refusal .linkBusy) ∧ ((∃ c, y.tag = .refusal c) ∧ ∀ z ∈ old, ¬ ∃ c, z.tag = .refusal c)) :
    removeRefusal q = some (old ++ new) := by
  subst hq
  rcases h with hy | ⟨hnone, hy⟩
  · rw [removeRefusal, removeFirst_decides (fun z => beq_iff_eq) hy]
    rfl
  · rw [removeRefusal, removeFirst_none_of (fun z => beq_iff_eq) hnone, removeFirst_decides isRefusal_iff hy]
    rfl

theorem noticeTable_bytes : ∀ i : Fin 7, noticeByte (noticeTable.get i) = BitVec.ofNat 8 (0xA0 + i.val) := by decide

/-- Settles O6: the queue's clauses are those of `enqueue`, then the transmitter starts. -/
theorem transmissionEndsAndNextStarts : Obligations.TransmissionEndsAndNextStarts := by
  refine ⟨fun link x s hrun hx => ?_, fun phase x f => ?_⟩
  · rw [exec_frameTransmitted, if_pos hrun, transmitted_eq hx]
  intro notice removable busy refusal oldest none' givenUp lost room started becomes
  have hplace : phase = .running ∨ phase = .starting → ∀ g, f.enqueue room x = g → becomes g := by
    rintro (rfl | rfl) g rfl
    · refine (startNext_eq _).trans ?_
      simp only [started, true_and]
      rfl
    · rfl
  refine ⟨fun hphase => ⟨fun hroom => hplace hphase _ (enqueue_room hroom), fun hfull old y new hgiven => ?_,
    fun hfull hnone => ⟨fun ⟨k, hk⟩ => ?_, fun ⟨c, hc⟩ => ?_, fun hx old y new hbusy => ?_⟩⟩, ?_, ?_⟩
  · have hq : removeNotice f.queue = some (old ++ new) := by
      rcases hgiven with ⟨hq, h⟩ | ⟨h1, hq, h⟩ | ⟨h1, h2, hq, h⟩
      · exact removeNotice_of hq (.inl h)
      · exact removeNotice_of hq (.inr (.inl ⟨h1, h⟩))
      · exact removeNotice_of hq (.inr (.inr ⟨h1, h2, h⟩))
    exact hplace hphase _ (enqueue_givesUp hfull hq)
  · exact hplace hphase _ (enqueue_notice hfull (removeNotice_none_of hnone) hk)
  · exact hplace hphase _ (enqueue_refusal hfull (removeNotice_none_of hnone) hc)
  · have hq : removeRefusal f.queue = some (old ++ new) := by
      rcases hbusy with ⟨hq, h⟩ | ⟨h1, hq, h⟩
      · exact removeRefusal_of hq (.inl h)
      · exact removeRefusal_of hq (.inr ⟨h1, h⟩)
    exact hplace hphase _ (enqueue_reply hfull (removeNotice_none_of hnone) hx hq)
  · rintro (rfl | rfl) <;> rfl
  · intro s k i link bytes more hk placed
    obtain ⟨hi, rfl⟩ := List.getElem?_eq_some_iff.mp hk
    have hbyte : noticeByte noticeTable[i] = BitVec.ofNat 8 (0xA0 + i) := noticeTable_bytes ⟨i, hi⟩
    refine ⟨rfl, ?_⟩
    rw [State.sendNotices_cons, hbyte]
    rfl

end Sys2Proof.Safety
end

section
/-! PROOF. Every request taken is answered, and the bytes of a frame act as the frame. -/

namespace Sys2Proof.Safety

open Sys2Proof.Machine

/-! ## What an owner leaves of its link front (R189) -/

/-- A front transmits in RUNNING, with a request, a queue and a frame on the wire as they stand. -/
def Waits (link : Link) (r : Option (RequestKind × List Byte)) (q : List TxFrame) (x : Option TxFrame) (s : State) : Prop :=
  s.restart.phase = .running ∧ (s.front link).request = r ∧ (s.front link).queue = q ∧ (s.front link).sending = x

/-- No owner touches a link front but for its lost-notice count. -/
theorem serves_waits (link : Link) (r : Option (RequestKind × List Byte)) (q : List TxFrame) (x : Option TxFrame) :
    Serves (Waits link r q x) where
  lines _ _ h := h
  cal _ _ h := h
  slots _ _ h := h
  journal _ _ _ _ h := h
  log s e h := by
    simp only [Waits, State.front, State.logFault_links, State.logFault_restart]
    exact h
  hand s u _ h := by
    simp only [Waits, State.front, State.hand_links, State.hand_restart]
    exact h
  lost s m h := by
    obtain ⟨hp, hr, hq, hx⟩ := h
    have hkeep : ∀ n, ((s.giveLost n).front link).request = (s.front link).request ∧
        ((s.giveLost n).front link).queue = (s.front link).queue ∧
        ((s.giveLost n).front link).sending = (s.front link).sending := by
      intro n
      simp only [State.giveLost, State.setFront, State.front, PerLink.get_set]
      split
      · next h => subst h; exact ⟨rfl, rfl, rfl⟩
      · exact ⟨rfl, rfl, rfl⟩
    exact ⟨hp, (hkeep m).1.trans hr, (hkeep m).2.1.trans hq, (hkeep m).2.2.trans hx⟩
  plan _ _ _ _ h := h
  counter _ h := h
  clock _ _ _ _ h := h
  cleared s h := by
    simp only [Waits, State.front, State.clearFaults, State.placeFree_links, State.placeFree_restart]
    exact h

/-! ## A reply keeps its place (R192) -/

/-- A front holds a reply frame, waiting or on the wire, with its request still pending. -/
structure Answers (r : Option (RequestKind × List Byte)) (x : TxFrame) (f : LinkFront) : Prop where
  pending : f.request = r
  held : x ∈ f.queue ∨ f.sending = some x

theorem enqueue_request (room : Nat) (x : TxFrame) (f : LinkFront) : (f.enqueue room x).request = f.request := by
  unfold LinkFront.enqueue
  repeat' split
  all_goals rfl

theorem enqueue_sending (room : Nat) (x : TxFrame) (f : LinkFront) : (f.enqueue room x).sending = f.sending := by
  unfold LinkFront.enqueue
  repeat' split
  all_goals rfl

theorem mem_removeFirst {α : Type} {p : α → Bool} {xs ys : List α} (h : removeFirst p xs = some ys) {x : α} (hx : x ∈ xs)
    (hp : p x = false) : x ∈ ys := by
  induction xs generalizing ys with
  | nil => cases hx
  | cons z zs ih =>
    rw [removeFirst] at h
    split at h
    next hz =>
      obtain rfl := Option.some.inj h
      rcases List.mem_cons.mp hx with rfl | hx
      · exact absurd hz (by simp [hp])
      · exact hx
    next =>
      obtain ⟨ws, hws, rfl⟩ := Option.map_eq_some_iff.mp h
      rcases List.mem_cons.mp hx with rfl | hx
      · exact List.mem_cons_self
      · exact List.mem_cons_of_mem _ (ih hws hx)

/-- The frame a queue gives up for another is a notice. -/
theorem mem_removeNotice {q r : List TxFrame} (h : removeNotice q = some r) {x : TxFrame} (hx : x ∈ q) (hreply : x.tag = .reply) :
    x ∈ r := by
  have hnot : ∀ k, x.isNotice k = false := fun k => by simp [TxFrame.isNotice, hreply]
  have hrem : x.isRemovable = false := by simp [TxFrame.isRemovable, hreply]
  unfold removeNotice at h
  rcases (Option.orElse_eq_some _ _ _).mp h with h | ⟨-, h⟩
  · exact mem_removeFirst h hx (hnot _)
  rcases (Option.orElse_eq_some _ _ _).mp h with h | ⟨-, h⟩
  · exact mem_removeFirst h hx (hnot _)
  · exact mem_removeFirst h hx hrem

theorem startNext_answers {r : Option (RequestKind × List Byte)} {x : TxFrame} {f : LinkFront} (h : Answers r x f) :
    Answers r x f.startNext := by
  rw [startNext_eq]
  split
  next hidle =>
    refine ⟨h.pending, ?_⟩
    have hx : x ∈ f.queue := h.held.resolve_right (by rw [hidle]; nofun)
    rcases f with ⟨rx, req, sending, q, lost⟩
    cases hx with
    | head => exact .inr rfl
    | tail _ hx => exact .inl hx
  next => exact h

/-- A notice placed leaves a reply where it is (R192). -/
theorem place_answers {r : Option (RequestKind × List Byte)} {x y : TxFrame} {f : LinkFront} {k : NoticeKind}
    (hreply : x.tag = .reply) (hy : y.tag = .notice k) (h : Answers r x f) : Answers r x (f.place .running y) := by
  refine startNext_answers ⟨(enqueue_request 8 y f).trans h.pending, ?_⟩
  rw [enqueue_sending]
  refine h.held.imp_left fun hx => ?_
  unfold LinkFront.enqueue
  split
  · exact List.mem_append_left _ hx
  · split
    next q hq => exact List.mem_append_left _ (mem_removeNotice hq hx hreply)
    next => simp only [hy]; exact hx

/-- Notices sent leave a reply where it is. -/
theorem sendNotices_answers {r : Option (RequestKind × List Byte)} {x : TxFrame} {link : Link} (hreply : x.tag = .reply)
    (ns : List Notice) {s : State} (hrun : s.restart.phase = .running) (h : Answers r x (s.front link)) :
    Answers r x ((s.sendNotices ns).front link) := by
  induction ns generalizing s with
  | nil => exact h
  | cons n ns ih =>
    rw [State.sendNotices_cons]
    refine ih (s := s.send _ _) hrun ?_
    simp only [State.send, State.setFront, State.front, PerLink.get_set, hrun]
    split
    next hl => subst hl; exact place_answers hreply rfl h
    next => exact h

/-! ## A reply finds a place (R192) -/

/-- A full queue that holds no reply, and no more than one START_UP, has a frame to give up for a reply. -/
theorem reply_finds_place {q : List TxFrame} (hreply : ∀ x ∈ q, x.tag ≠ .reply) (hfull : 8 ≤ q.length)
    (hstart : (q.filter (TxFrame.isNotice .startUp)).length ≤ 1) (hnotice : removeNotice q = none) :
    ∃ r, removeRefusal q = some r := by
  by_contra hnone
  have hrefusal : removeRefusal q = none := Option.eq_none_iff_forall_ne_some.mpr fun r hr => hnone ⟨r, hr⟩
  unfold removeRefusal at hrefusal
  have hno := removeFirst_none_iff.mp ((Option.orElse_eq_none _ _).mp hrefusal).2
  have hall : ∀ x ∈ q, x.isNotice .startUp = true := by
    intro x hx
    have hrem := (removeNotice_none_iff q).mp hnotice x hx
    have href := hno x hx
    have hrep := hreply x hx
    unfold TxFrame.isRemovable at hrem
    unfold TxFrame.isRefusal at href
    rw [isNotice_iff]
    split at hrem <;> simp_all
  rw [List.filter_eq_self.mpr hall] at hstart
  omega

/-- A reply joins the newest end of its queue, whatever gives way. -/
theorem enqueue_reply_held {x : TxFrame} {f : LinkFront} (hx : x.tag = .reply) (hreply : ∀ y ∈ f.queue, y.tag ≠ .reply)
    (hstart : (f.queue.filter (TxFrame.isNotice .startUp)).length ≤ 1) : x ∈ (f.enqueue 8 x).queue := by
  by_cases hroom : f.queue.length < 8
  · rw [enqueue_room hroom]
    exact List.mem_append_right _ (List.mem_singleton_self x)
  · have hfull := Nat.le_of_not_lt hroom
    cases hn : removeNotice f.queue with
    | some q =>
      rw [enqueue_givesUp hfull hn]
      exact List.mem_append_right _ (List.mem_singleton_self x)
    | none =>
      obtain ⟨q, hq⟩ := reply_finds_place hreply hfull hstart hn
      rw [enqueue_reply hfull hn hx hq]
      exact List.mem_append_right _ (List.mem_singleton_self x)

theorem frame_reply (kind : Byte) (r : Reply) : (r.frame kind .reply).tag = .reply ∧
    ((∃ ind data, (r.frame kind .reply).kind = 0x80 ∧ (r.frame kind .reply).body = kind :: ind :: data) ∨
      (∃ c, (r.frame kind .reply).kind = 0x81 ∧ (r.frame kind .reply).body = [kind, refusalByte c])) := by
  cases r with
  | accepted ind data => exact ⟨rfl, .inl ⟨ind, data, rfl, rfl⟩⟩
  | refused c => exact ⟨rfl, .inr ⟨c, rfl, rfl⟩⟩

/-- Settles O5: the owner leaves the queue as it is, the reply finds a place in it, and the notices leave it there. -/
theorem everyTakenRequestIsAnswered : Obligations.EveryTakenRequestIsAnswered := by
  intro k link body s htakes hqueue hlength hstart hsending
  let r := owner k link body ⟨asked s link k body, []⟩
  have hasked : Waits link (some (k, body)) (s.front link).queue (s.front link).sending (asked s link k body) := by
    simp only [Waits, asked, State.setFront_front]
    exact ⟨htakes.running, trivial, trivial, trivial⟩
  obtain ⟨hrun, hrequest, hq, -⟩ : Waits link _ _ _ r.2.st := (serves_waits link _ _ _).owner k hasked
  refine ⟨_, (exec_requestCommand k link body s).trans
    (request_taken link k body _ s htakes.running htakes.free htakes.marked), ?_⟩
  obtain ⟨htag, hshape⟩ := frame_reply (requestByte k) r.1
  have hplaced : Answers (some (k, body)) (r.1.frame (requestByte k) .reply)
      ((r.2.st.send link (r.1.frame (requestByte k) .reply)).front link) := by
    rw [State.send, State.setFront_front, hrun]
    refine startNext_answers ⟨(enqueue_request _ _ _).trans hrequest, .inl ?_⟩
    exact enqueue_reply_held htag (hq ▸ hqueue) (hq ▸ hstart)
  have hsent := sendNotices_answers (s := r.2.st.send link (r.1.frame (requestByte k) .reply)) htag r.2.notes hrun hplaced
  exact ⟨hsent.pending, _, hsent.held, htag, hshape⟩

/-! ## The bytes of a frame (R186, R187) -/

/-- The part with the receiver of a link in a state, its outputs settled. -/
def receiving (s : State) (link : Link) (rx : Receiver) : State := (s.setRx link rx).drive

theorem receiving_front (s : State) (link : Link) (rx : Receiver) :
    (receiving s link rx).front link = { s.front link with rx := rx } := State.setFront_front s link _

theorem receiving_setRx (s : State) (link : Link) (rx rx' : Receiver) :
    ((receiving s link rx).setRx link rx').drive = receiving s link rx' := by
  rw [State.setRx, receiving_front]
  simp only [receiving, State.setRx, State.setFront, State.drive, PerLink.set_set]
  rfl

theorem runCommands_append {cs ds : List Instr} {s t : State} (h : runCommands cs s = .next t) :
    runCommands (cs ++ ds) s = runCommands ds t := by
  induction cs generalizing s with
  | nil =>
    obtain rfl := Host.Outcome.next.inj h
    rfl
  | cons c cs ih =>
    rw [runCommands] at h
    rw [List.cons_append, runCommands]
    cases hc : exec c s with
    | next u =>
      rw [hc] at h
      exact ih h
    | fault f => rw [hc] at h; cases h
    | refused r => rw [hc] at h; cases h

theorem runCommands_one (c : Instr) (s : State) : runCommands [c] s = exec c s := by
  rw [runCommands]
  cases exec c s <;> rfl

theorem exec_frameCommand (link : Link) (kind : Byte) (body : List Byte) (s : State) :
    exec (frameCommand link kind body) s = takeFrame link kind body s := by
  unfold frameCommand takeFrame
  cases h : requestOf? kind with
  | some k => exact exec_requestCommand k link body s
  | none =>
    rw [exec_unknownRequest_of_none h]

section
variable {s : State} {link : Link}

/-- Back in HUNT nothing of a frame is left (R187). -/
theorem receiving_hunt (h : (s.front link).rx = .hunt) (rx : Receiver) : (receiving s link rx).setRx link .hunt = s.drive := by
  have hfront : { s.front link with rx := .hunt } = s.front link := by rw [← h]
  rw [State.setRx, receiving_front]
  simp only [hfront]
  simp only [receiving, State.setRx, State.setFront, State.drive, PerLink.set_set]
  simp only [State.front, PerLink.set_get]
  rfl

theorem receiving_self (h : (s.front link).rx = .hunt) : receiving s link .hunt = s.drive := by
  have hfront : { s.front link with rx := .hunt } = s.front link := by rw [← h]
  rw [receiving, State.setRx, hfront, State.setFront, State.front, PerLink.set_get]

/-- A byte that completes no frame moves the receiver. -/
theorem receiving_byte {rx rx' : Receiver} {b : Byte} (h : rx.take b = (rx', none)) :
    exec (.linkByteReceived link b) (receiving s link rx) = .next (receiving s link rx') := by
  have hfront : ((receiving s link rx).front link).rx = rx := by rw [receiving_front]
  rw [exec_byte_incomplete (rx := rx') (by rw [hfront, h])]
  exact congrArg _ (receiving_setRx s link rx rx')

/-- The rest of a body, byte by byte (R187). -/
theorem receive_body {kind : Byte} : ∀ (rest got : List Byte), rest ≠ [] →
    runCommands (rest.map (Instr.linkByteReceived link)) (receiving s link (.body (got.length + rest.length + 1) kind got))
      = .next (receiving s link (.check kind (got ++ rest) none)) := by
  intro rest
  induction rest with
  | nil => exact fun got h => absurd rfl h
  | cons b rest ih =>
    intro got _
    rw [List.map_cons, runCommands]
    cases rest with
    | nil =>
      rw [receiving_byte (rx' := .check kind (got ++ [b]) none) (by
        rw [Receiver.take, if_pos (by simp)])]
      rfl
    | cons b' rest =>
      rw [receiving_byte (rx' := .body (got.length + (b :: b' :: rest).length + 1) kind (got ++ [b])) (by
        rw [Receiver.take, if_neg (by simp)])]
      have hlength : got.length + (b :: b' :: rest).length + 1 = (got ++ [b]).length + (b' :: rest).length + 1 := by
        simp only [List.length_append, List.length_cons, List.length_nil]
        omega
      rw [hlength]
      have hrest := ih (got ++ [b]) (List.cons_ne_nil _ _)
      rw [List.append_assoc] at hrest
      exact hrest

/-- A frame up to its first check byte (R186, R187). -/
theorem receive_covered {kind : Byte} {body : List Byte} (hbody : body.length ≤ 248) (h : (s.front link).rx = .hunt) (c : Byte) :
    runCommands ((0xC3 :: frameCovered kind body ++ [c]).map (Instr.linkByteReceived link)) s
      = .next (receiving s link (.check kind body (some c))) := by
  have hlength : (BitVec.ofNat 8 (body.length + 1)).toNat = body.length + 1 := by
    rw [BitVec.toNat_ofNat]
    omega
  have hstart : exec (.linkByteReceived link 0xC3) s = .next (receiving s link .length) :=
    exec_byte_incomplete (by rw [h]; rfl)
  have hlen : exec (.linkByteReceived link (BitVec.ofNat 8 (body.length + 1))) (receiving s link .length)
      = .next (receiving s link (.kind (body.length + 1))) :=
    receiving_byte (by rw [Receiver.take, hlength, if_pos ⟨by omega, by omega⟩])
  have hrest : runCommands ((kind :: body).map (Instr.linkByteReceived link)) (receiving s link (.kind (body.length + 1)))
      = .next (receiving s link (.check kind body none)) := by
    rw [List.map_cons, runCommands]
    cases body with
    | nil =>
      rw [receiving_byte (rx' := .check kind [] none) rfl]
      rfl
    | cons b bs =>
      rw [receiving_byte (rx' := .body ((b :: bs).length + 1) kind []) (by rw [Receiver.take, if_neg (by simp)])]
      have hbytes := receive_body (s := s) (link := link) (kind := kind) (b :: bs) [] (List.cons_ne_nil _ _)
      rw [List.length_nil, Nat.zero_add] at hbytes
      exact hbytes
  have hcheck : exec (.linkByteReceived link c) (receiving s link (.check kind body none))
      = .next (receiving s link (.check kind body (some c))) := receiving_byte rfl
  rw [frameCovered, List.cons_append, List.cons_append, List.map_cons, List.map_cons, runCommands, hstart]
  dsimp only
  rw [runCommands, hlen]
  dsimp only
  rw [List.map_append, runCommands_append hrest]
  exact (runCommands_one _ _).trans hcheck

end

/-- A frame is its covered bytes and two check bytes (R186). -/
theorem frameBytes_eq (kind : Byte) (body : List Byte) : ∃ c1 c2, beBytes 2 (crc16 (frameCovered kind body)).toNat = [c1, c2] ∧
    frameBytes kind body = (0xC3 :: frameCovered kind body ++ [c1]) ++ [c2] := by
  obtain ⟨c1, c2, hc⟩ := List.length_eq_two.mp (beBytes_length 2 (crc16 (frameCovered kind body)).toNat)
  exact ⟨c1, c2, hc, by rw [frameBytes, hc]; simp⟩

/-- Settles O8: all bytes but the last leave the receiver at its check, and the last decides. -/
theorem frameBytesActAsTheFrame : Obligations.FrameBytesActAsTheFrame := by
  intro link kind body s hbody hhunt
  obtain ⟨c1, c2, hcheck, hframe⟩ := frameBytes_eq kind body
  have hcovered := receive_covered (kind := kind) hbody hhunt c1
  have hfront : ((receiving s link (.check kind body (some c1))).front link).rx = .check kind body (some c1) := by
    rw [receiving_front]
  refine ⟨?_, fun b hb => ?_⟩
  · rw [hframe, List.map_append, runCommands_append hcovered, exec_frameCommand]
    refine (runCommands_one _ _).trans ?_
    rw [exec_byte_complete (rx := .hunt) (kind := kind) (body := body) (by rw [hfront, Receiver.take, if_pos hcheck]),
      receiving_hunt hhunt]
  · have hne : b ≠ c2 := by rwa [hframe, List.getLastD_concat] at hb
    rw [hframe, List.dropLast_concat, List.map_append, runCommands_append hcovered]
    refine (runCommands_one _ _).trans ?_
    have hwrong : beBytes 2 (crc16 (frameCovered kind body)).toNat ≠ [c1, b] := by
      rw [hcheck]
      simpa using hne.symm
    rw [receiving_byte (rx' := .hunt) (by rw [Receiver.take, if_neg hwrong])]
    exact congrArg _ (receiving_self hhunt)

end Sys2Proof.Safety
end

section
/-! PROOF. The requests that only read, and the search of the order table. -/

namespace Sys2Proof.Safety

open Sys2Proof.Machine

/-! ## Reads -/

section
variable {link : Link} {body : List Byte} {s : State}

/-- A read that gives the link's lost-notice count and sets it to 0 (R192). -/
theorem request_lost {k : RequestKind} {own : Work → Reply × Work} {r : Reply} (htakes : Takes s link k)
    (hown : own ⟨asked s link k body, []⟩ = (r, ⟨(asked s link k body).giveLost link, []⟩)) :
    request link k body own s
      = .next (answered (s.setFront link { s.front link with lost := 0 }) link k body r) := by
  rw [request_taken _ _ _ _ _ htakes.running htakes.free htakes.marked]
  change Host.Outcome.next (((own ⟨asked s link k body, []⟩).2.st.send link
    ((own ⟨asked s link k body, []⟩).1.frame (requestByte k) .reply)).sendNotices
      (own ⟨asked s link k body, []⟩).2.notes).drive = _
  rw [hown]
  refine next_drive ?_
  simp only [State.sendNotices_nil, State.send, State.giveLost, asked, replied, State.setFront_front, State.setFront_restart,
    htakes.running]
  simp only [State.setFront, PerLink.set_set]

theorem asked_lost (k : RequestKind) : ((asked s link k body).front link).lost = (s.front link).lost := by
  rw [asked, State.setFront_front]

/-- The position of a number held (R128). -/
theorem named_number {h : JournalHeader} {n i : Nat} (hn : n = h.oldestNumber + i) (hi : i < h.count) :
    h.named (some n) = some i := by
  rw [JournalHeader.named, JournalHeader.position?, if_pos (by omega)]
  exact congrArg some (by omega)

theorem named_number_none {h : JournalHeader} {n : Nat} (hn : n < h.oldestNumber ∨ h.oldestNumber + h.count ≤ n) :
    h.named (some n) = none := by
  rw [JournalHeader.named, JournalHeader.position?, if_neg (by omega)]

/-- The oldest entry that is not TRANSFERRED (R134). -/
theorem named_open {h : JournalHeader} (hi : h.transferred < h.count) : h.named none = some h.transferred := by
  rw [JournalHeader.named, JournalHeader.openFrom, Nat.zero_max, if_pos hi]

theorem named_open_none {h : JournalHeader} (hi : h.count ≤ h.transferred) : h.named none = none := by
  rw [JournalHeader.named, JournalHeader.openFrom, Nat.zero_max, if_neg (by omega)]

/-! ## The audit trail (R158, R161) -/

theorem auditFind_empty {st : Store} (h : st.audit = []) (n : Nat) : st.auditFind n = .none := by
  simp [Store.auditFind, h]

/-- The distance of a number from the oldest, for the numbers that follow the newest. -/
theorem audit_distance {st : Store} {j : Nat} (hfirst : 1 ≤ st.auditOldest) (hlast : st.auditOldest ≤ 4294967295)
    (hj : j < 4294967295) : (auditNumber st j + max32 - st.auditOldest) % max32 = j := by
  simp only [auditNumber, max32]
  omega

theorem auditFind_newer {st : Store} {k : Nat} (hlength : st.audit.length ≤ 64) (hfirst : 1 ≤ st.auditOldest)
    (hlast : st.auditOldest ≤ 4294967295) (hk : k < 4294967295 - st.audit.length)
    (h : st.audit.length < 64 ∨ k < (4294967295 - 64) / 2) : st.auditFind (auditNumber st (st.audit.length + k)) = .none := by
  have hd := audit_distance (st := st) (j := st.audit.length + k) hfirst hlast (by omega)
  simp only [Store.auditFind, hd]
  split
  · rfl
  · rw [if_neg (by omega)]
    split
    · rfl
    · rw [if_pos]
      rw [max32]
      omega

theorem auditFind_lost {st : Store} {k : Nat} (hlength : st.audit.length = 64) (hfirst : 1 ≤ st.auditOldest)
    (hlast : st.auditOldest ≤ 4294967295) (hk : k < 4294967295 - st.audit.length) (h : (4294967295 - 64) / 2 ≤ k) :
    st.auditFind (auditNumber st (st.audit.length + k)) = .lost := by
  have hd := audit_distance (st := st) (j := st.audit.length + k) hfirst hlast (by omega)
  simp only [Store.auditFind, hd]
  rw [if_neg (by omega), if_neg (by omega), if_neg (by omega), if_neg]
  rw [max32]
  omega

theorem auditReply_oldest {st : Store} {e : AuditEntry} (h : st.audit[0]? = some e) :
    auditReply st none = .accepted 0x00 (auditData st 0 e) := by
  have hne : st.audit.isEmpty = false := by
    cases haudit : st.audit with
    | nil => rw [haudit] at h; cases h
    | cons => rfl
  rw [auditData_eq st 0 e h, auditReply, hne]
  rfl

theorem auditReply_none {st : Store} {n : Nat} (h : st.auditFind n = .none) : auditReply st (some n) = .accepted 0x02 [] := by
  rw [auditReply, h]
  rfl

theorem auditReply_entry {st : Store} {n i : Nat} {e : AuditEntry} (h : st.auditFind n = .entry i) (he : st.audit[i]? = some e) :
    auditReply st (some n) = .accepted 0x00 (auditData st i e) := by
  rw [auditData_eq st i e he, auditReply, h]
  rfl

theorem auditReply_lost {st : Store} {n : Nat} {e : AuditEntry} (h : st.auditFind n = .lost) (he : st.audit[0]? = some e) :
    auditReply st (some n) = .accepted 0x03 (auditData st 0 e) := by
  rw [auditData_eq st 0 e he, auditReply, h]
  rfl

theorem exec_readAudit {which : Option Nat} (htakes : Takes s link .readAudit) (hparse : parseNumberOrKeyword body = some which) :
    exec (.readAudit link body) s = .next (answered s link .readAudit body (auditReply s.store which)) := by
  refine request_answered htakes ?_
  simp only [ownReadAudit, hparse]
  rfl

end

/-- Settles O9: each read answers the data of its rule, and gives its work back. -/
theorem readsChangeNothing : Obligations.ReadsChangeNothing := by
  intro link body s s0 lost
  refine ⟨fun htakes hbody => ?_, fun l htakes hparse => ?_, fun n htakes hparse => ?_, fun key mask htakes hparse => ?_,
    fun n htakes hparse => ?_, fun which i htakes hparse hi hwhich => ?_, fun which htakes hparse hwhich => ?_,
    fun p htakes hparse => ?_, fun htakes hbody => ?_, fun which htakes hparse => ?_, fun r htakes hparse => ?_,
    fun htakes hbody => ?_⟩
  · subst hbody
    refine request_lost htakes ?_
    simp only [ownReadStatus, parseEmpty, asked_lost, lineStatus_eq, yesByte_eq]
    rfl
  · refine request_lost htakes ?_
    simp only [ownReadLine, hparse, asked_lost, lineData_eq]
    rfl
  · refine request_answered htakes ?_
    simp only [ownReadOrders, hparse, ordersData_eq]
    rfl
  · refine request_answered htakes ?_
    simp only [ownSearchOrder, hparse]
    rfl
  · refine request_answered htakes ?_
    simp only [ownReadPlan, hparse, planData_eq]
    rfl
  · refine request_answered htakes ?_
    have hnamed : (asked s link .readTicket body).journal.header.named which = some i := by
      cases which with
      | some n => exact named_number hwhich hi
      | none => subst hwhich; exact named_open hi
    simp only [ownReadTicket, hparse, hnamed, ticketData_eq]
    rfl
  · refine request_answered htakes ?_
    have hnamed : (asked s link .readTicket body).journal.header.named which = none := by
      cases which with
      | some n => exact named_number_none hwhich
      | none => exact named_open_none hwhich
    simp only [ownReadTicket, hparse, hnamed]
  · refine request_answered htakes ?_
    simp only [ownReadFaultLog, hparse, faultLogData_eq]
    rfl
  · subst hbody
    refine request_answered htakes ?_
    simp only [ownReadTotals, parseEmpty]
    rfl
  · intro st gives
    have hgives : ∀ r, auditReply s.store which = r → gives r := by
      rintro r rfl
      exact exec_readAudit htakes hparse
    refine ⟨fun hempty => hgives _ ?_, fun e he hnone => hgives _ ?_, fun hlength hfirst hlast =>
      ⟨fun i e he hn => hgives _ ?_, fun k hk hn => ⟨fun hnewer => hgives _ ?_, fun e he hfull hold => hgives _ ?_⟩⟩⟩
    · cases which with
      | none => rw [auditReply, hempty]; rfl
      | some n => exact auditReply_none (auditFind_empty hempty n)
    · rw [hnone]
      exact auditReply_oldest he
    · rw [hn]
      exact auditReply_entry (Store.auditFind_held st (List.getElem?_eq_some_iff.mp he).1 hlength hfirst hlast) he
    · rw [hn]
      exact auditReply_none (auditFind_newer hlength hfirst hlast hk hnewer)
    · rw [hn]
      exact auditReply_lost (auditFind_lost hfull hfirst hlast hk hold) he
  · refine request_answered htakes ?_
    simp only [ownReadRecord, hparse, recordData_eq]
    rfl
  · subst hbody
    refine request_answered htakes ?_
    simp only [ownReadChecksum, parseEmpty, checksumData_eq]
    rfl

/-! ## The search (R102, R103) -/

section
variable {t : OrderTable}

theorem oldest_mem {ns : List SlotNo} {m : SlotNo} (h : t.oldest ns = some m) : m ∈ ns := by
  induction ns generalizing m with
  | nil => cases h
  | cons n ns ih =>
    rw [OrderTable.oldest] at h
    cases hns : t.oldest ns with
    | none =>
      rw [hns] at h
      exact Option.some.inj h ▸ List.mem_cons_self
    | some k =>
      rw [hns] at h
      dsimp only at h
      split at h
      · exact Option.some.inj h ▸ List.mem_cons_of_mem n (ih hns)
      · exact Option.some.inj h ▸ List.mem_cons_self

/-- Of slots in ascending order the one of smallest sequence is found, the lower number winning a tie. -/
theorem oldest_of {ns : List SlotNo} {n : SlotNo} (hsorted : ns.Pairwise (· < ·)) (hn : n ∈ ns)
    (hleast : ∀ m ∈ ns, (t.slot n).seq < (t.slot m).seq ∨ ((t.slot n).seq = (t.slot m).seq ∧ n ≤ m)) :
    t.oldest ns = some n := by
  induction ns with
  | nil => cases hn
  | cons x xs ih =>
    obtain ⟨hlow, hrest⟩ := List.pairwise_cons.mp hsorted
    obtain ⟨hx, hothers⟩ := List.forall_mem_cons.mp hleast
    rw [OrderTable.oldest]
    rcases List.mem_cons.mp hn with rfl | hn
    · cases hxs : t.oldest xs with
      | none => rfl
      | some m =>
        have hm := hothers m (oldest_mem hxs)
        exact if_neg (by omega)
    · rw [ih hrest hn hothers]
      have hxn : x < n := hlow n hn
      exact if_pos (hx.resolve_right fun h => absurd h.2 (not_le_of_gt hxn))

theorem matches_iff (key mask : BitVec 24) (x : Slot) :
    x.matches key mask = true ↔ ∃ o, x = .waiting o ∧ o.copy.site &&& mask = key &&& mask := by
  cases x <;> simp [Slot.matches]

theorem mem_matching {key mask : BitVec 24} {n : SlotNo} :
    n ∈ t.matching key mask ↔ ∃ o, t.slot n = .waiting o ∧ o.copy.site &&& mask = key &&& mask := by
  simp [OrderTable.matching, allSlots, matches_iff]

theorem matching_sorted (key mask : BitVec 24) : (t.matching key mask).Pairwise (· < ·) :=
  (List.pairwise_lt_finRange 24).filter _

end

/-- Settles O10: the matching slots stand in ascending order, and `oldest` takes the first of the smallest. -/
theorem searchFindsOldestMatch : Obligations.SearchFindsOldestMatch := by
  intro t key mask hit
  refine ⟨fun hnone => ?_, fun n o hn hleast all hnodup hall => ?_⟩
  · have hempty : t.matching key mask = [] :=
      List.eq_nil_iff_forall_not_mem.mpr fun m hm => (mem_matching.mp hm).elim fun q hq => hnone m q hq
    rw [searchReply, hempty]
    rfl
  · have holdest : t.oldest (t.matching key mask) = some n := by
      refine oldest_of (matching_sorted key mask) (mem_matching.mpr ⟨o, hn⟩) fun m hm => ?_
      obtain ⟨q, hq⟩ := mem_matching.mp hm
      have hmq := hleast m q hq
      rwa [hn.1, hq.1]
    have hcount : all.length = (t.matching key mask).length :=
      ((List.perm_ext_iff_of_nodup hnodup (matching_sorted key mask).nodup).mpr fun m =>
        (hall m).trans mem_matching.symm).length_eq
    rw [searchReply, holdest]
    simp only [hn.1, Slot.order?, orderData_eq, hcount]
    rfl

end Sys2Proof.Safety
end

section
/-! PROOF. Bodies: the fields of a body by their offsets, what each parser refuses, and what is laid out read back. -/

namespace Sys2Proof.Safety

open Sys2Proof.Machine

/-! ## Fields (R195) -/

theorem beNat_cons (b : Byte) (bs : List Byte) : beNat (b :: bs) = b.toNat * 256 ^ bs.length + beNat bs := by
  have hfold : ∀ (xs : List Byte) (a : Nat),
      xs.foldl (fun acc b => acc * 256 + b.toNat) a = a * 256 ^ xs.length + xs.foldl (fun acc b => acc * 256 + b.toNat) 0 := by
    intro xs
    induction xs with
    | nil => intro a; simp
    | cons x xs ih =>
      intro a
      rw [List.foldl_cons, List.foldl_cons, ih, ih (0 * 256 + x.toNat), List.length_cons, Nat.pow_succ]
      ring
  rw [beNat, List.foldl_cons, hfold]
  simp [beNat]

/-- A number read back from its bytes. -/
theorem beNat_beBytes (n v : Nat) : beNat (beBytes n v) = v % 256 ^ n := by
  induction n generalizing v with
  | zero => simp [beBytes, beNat, Nat.mod_one]
  | succ n ih =>
    have hbyte : (BitVec.ofNat 8 (v / 256 ^ n)).toNat = v / 256 ^ n % 256 := BitVec.toNat_ofNat ..
    rw [beBytes, beNat_cons, ih, beBytes_length, hbyte, Nat.pow_succ, Nat.mod_mul, Nat.mul_comm, Nat.add_comm]

theorem field_append_left {a b : List Byte} {off n : Nat} (h : off + n ≤ a.length) : field (a ++ b) off n = field a off n := by
  rw [field, field, List.drop_append_of_le_length (by omega), List.take_append_of_le_length (by simp; omega)]

theorem field_append_right {a b : List Byte} {off n : Nat} (h : a.length ≤ off) :
    field (a ++ b) off n = field b (off - a.length) n := by
  rw [field, field, List.drop_append, List.drop_eq_nil_of_le h, List.nil_append]

theorem field_beBytes (n v : Nat) : field (beBytes n v) 0 n = v % 256 ^ n := by
  rw [field, List.drop_zero, List.take_of_length_le (beBytes_length n v).le, beNat_beBytes]

theorem field_drop (b : List Byte) (m off n : Nat) : field (b.drop m) off n = field b (m + off) n := by
  rw [field, field, List.drop_drop]

theorem field_take {b : List Byte} {m off n : Nat} (h : off + n ≤ m) : field (b.take m) off n = field b off n := by
  rw [field, field, List.drop_take, List.take_take, Nat.min_eq_left (by omega)]

/-! ## Character fields (R195) -/

/-- The characters and the padding of a field are told apart by the first 0x00. -/
theorem chars_split {a b : List Byte} (ha : ∀ c ∈ a, 32 ≤ c.toNat ∧ c.toNat ≤ 126) (hb : ∀ c ∈ b, c = 0) :
    (a ++ b).takeWhile (fun c => decide (c ≠ 0)) = a ∧ (a ++ b).dropWhile (fun c => decide (c ≠ 0)) = b := by
  have hpos : ∀ c ∈ a, decide (c ≠ 0) = true := by
    intro c hc
    refine decide_eq_true ?_
    rintro rfl
    exact absurd (ha 0 hc).1 (by decide)
  have hpad : b.takeWhile (fun c => decide (c ≠ 0)) = [] ∧ b.dropWhile (fun c => decide (c ≠ 0)) = b := by
    cases b with
    | nil => exact ⟨rfl, rfl⟩
    | cons c cs =>
      obtain rfl := hb c List.mem_cons_self
      exact ⟨rfl, rfl⟩
  rw [List.takeWhile_append_of_pos hpos, List.dropWhile_append_of_pos hpos, hpad.1, hpad.2, List.append_nil]
  exact ⟨rfl, rfl⟩

/-- A character field as received: its characters, then padding (R195). -/
theorem parseChars_eq_some_iff (bs cs : List Byte) : parseChars bs = some cs ↔
    ∃ pad, bs = cs ++ pad ∧ (∀ c ∈ cs, 32 ≤ c.toNat ∧ c.toNat ≤ 126) ∧ ∀ c ∈ pad, c = 0 := by
  constructor
  · intro h
    simp only [parseChars] at h
    split at h
    next hok =>
      obtain rfl := Option.some.inj h
      simp only [Bool.and_eq_true, List.all_eq_true, decide_eq_true_eq] at hok
      exact ⟨_, List.takeWhile_append_dropWhile.symm, hok.2, hok.1⟩
    next => cases h
  · rintro ⟨pad, rfl, hchars, hpad⟩
    obtain ⟨htake, hdrop⟩ := chars_split hchars hpad
    simp only [parseChars, htake, hdrop]
    rw [if_pos]
    simpa using ⟨hpad, hchars⟩

/-- A field is a character field just when it is received as one. -/
theorem charField_iff (least : Nat) (bs : List Byte) : CharField least bs ↔ ∃ cs, parseChars bs = some cs ∧ least ≤ cs.length := by
  constructor
  · rintro ⟨k, hk, hlen, hchars, hpad⟩
    refine ⟨bs.take k, (parseChars_eq_some_iff _ _).mpr ⟨bs.drop k, (List.take_append_drop k bs).symm, hchars, hpad⟩, ?_⟩
    rwa [List.length_take, Nat.min_eq_left hlen]
  · rintro ⟨cs, hcs, hleast⟩
    obtain ⟨pad, rfl, hchars, hpad⟩ := (parseChars_eq_some_iff _ _).mp hcs
    refine ⟨cs.length, hleast, by simp, ?_, ?_⟩
    · rwa [List.take_left]
    · rwa [List.drop_left]

/-- Characters within a field of n bytes read back (R195). -/
theorem parseChars_padTo {n : Nat} {cs : List Byte} (hlen : cs.length ≤ n)
    (hchars : ∀ c ∈ cs, 32 ≤ c.toNat ∧ c.toNat ≤ 126) : parseChars (padTo n cs) = some cs := by
  refine (parseChars_eq_some_iff _ _).mpr ⟨(List.replicate n 0).take (n - cs.length), ?_, hchars, fun c hc => ?_⟩
  · rw [padTo, List.take_append, List.take_of_length_le hlen]
  · exact List.eq_of_mem_replicate (List.mem_of_mem_take hc)

/-! ## Numbers that name (R195, R196) -/

@[simp] theorem lineOf_lineNo (l : LineId) : lineOf? (lineNo l) = some l := by cases l <;> rfl

@[simp] theorem productOf_productNo (p : Product) : productOf? (productNo p) = some p := by cases p <;> rfl

@[simp] theorem recordOf_recordNo (r : RecordId) : recordOf? (recordNo r) = some r := by
  rcases r with l | ⟨l, p⟩ | p
  · cases l <;> rfl
  · cases l <;> cases p <;> rfl
  · cases p <;> rfl

theorem lineNo_lt (l : LineId) : lineNo l < 2 := by cases l <;> decide

theorem productNo_lt (p : Product) : productNo p < 4 := by cases p <;> decide

theorem recordNo_lt (r : RecordId) : recordNo r < 14 := by
  rcases r with l | ⟨l, p⟩ | p
  · exact (lineNo_lt l).trans (by decide)
  · have := lineNo_lt l
    have := productNo_lt p
    simp only [recordNo]
    omega
  · have := productNo_lt p
    simp only [recordNo]
    omega

theorem lineOf_isSome_iff (n : Nat) : (∃ l, lineOf? n = some l) ↔ n ≤ 1 := by
  match n with
  | 0 => simp [lineOf?]
  | 1 => simp [lineOf?]
  | n + 2 => simp [lineOf?]

theorem productOf_isSome_iff (n : Nat) : (∃ p, productOf? n = some p) ↔ n ≤ 3 := by
  match n with
  | 0 => simp [productOf?]
  | 1 => simp [productOf?]
  | 2 => simp [productOf?]
  | 3 => simp [productOf?]
  | n + 4 => simp [productOf?]

theorem recordOf_isSome_iff (n : Nat) : (∃ r, recordOf? n = some r) ↔ n ≤ 13 := by
  have hlength : allRecords.length = 14 := rfl
  unfold recordOf?
  split
  next r rs h =>
    have hdrop := congrArg List.length h
    simp only [List.length_drop, List.length_cons, hlength] at hdrop
    exact iff_of_true ⟨r, rfl⟩ (by omega)
  next h =>
    have hdrop := List.drop_eq_nil_iff.mp h
    exact iff_of_false (by simp) (by omega)

/-! ## What is laid out reads back (R96, R113, R147, R149, R199) -/

/-- A word of at most n bytes is read back from them. -/
theorem beNat_word {w : Nat} (n : Nat) (x : BitVec w) (h : 2 ^ w ≤ 256 ^ n) : beNat (beBytes n x.toNat) = x.toNat := by
  rw [beNat_beBytes, Nat.mod_eq_of_lt (x.isLt.trans_le h)]

theorem beNat_number (n : Nat) {v : Nat} (h : v < 256 ^ n) : beNat (beBytes n v) = v := by
  rw [beNat_beBytes, Nat.mod_eq_of_lt h]

theorem beNat_byte (b : Byte) : beNat [b] = b.toNat := by simp [beNat]

/-- The field that is one part of a body laid out from its parts. -/
theorem field_flatten (k : Nat) {ps : List (List Byte)} {widths : List Nat} {off n : Nat} (hw : ps.map List.length = widths)
    (ho : (widths.take k).sum = off) (hn : widths[k]? = some n) : field ps.flatten off n = beNat (ps.getD k []) := by
  rw [field, flatten_part k ps widths off n hw ho hn]

/-- The parts of an order body (R96, R196). -/
def orderParts (o : OrderCopy) : List (List Byte) :=
  [beBytes 4 o.orderId.toNat, padTo 10 o.account, beBytes 3 o.site.toNat, beBytes 1 (productNo o.product),
   [presetKindCode o.kind], beBytes 4 o.amount.toNat, [BitVec.ofNat 8 ((o.plan.map Fin.val).getD 0xFF)],
   beBytes 2 o.taxRate.toNat]

def orderWidths : List Nat := [4, 10, 3, 1, 1, 4, 1, 2]

theorem orderBytes_parts (o : OrderCopy) : orderBytes o = (orderParts o).flatten := by
  unfold orderBytes orderParts
  cases o.plan <;> simp

theorem orderParts_widths (o : OrderCopy) : (orderParts o).map List.length = orderWidths := by
  simp [orderParts, orderWidths]

theorem planCode_toNat (p : Option PlanNo) :
    (BitVec.ofNat 8 ((p.map Fin.val).getD 0xFF)).toNat = (p.map Fin.val).getD 0xFF := by
  cases p with
  | none => rfl
  | some n => exact Nat.mod_eq_of_lt (n.isLt.trans (by decide))

theorem field_orderBytes (o : OrderCopy) (k : Nat) {off n : Nat} (ho : (orderWidths.take k).sum = off)
    (hn : orderWidths[k]? = some n) : field (orderBytes o) off n = beNat ((orderParts o).getD k []) := by
  rw [orderBytes_parts, field_flatten k (orderParts_widths o) ho hn]

/-- An order body reads back. -/
theorem parseLoadOrder_orderBytes {o : OrderCopy} (hid : o.orderId ≠ 0) (hleast : 1 ≤ o.account.length)
    (hmost : o.account.length ≤ 10) (hchars : ∀ c ∈ o.account, 32 ≤ c.toNat ∧ c.toNat ≤ 126) (htax : o.taxRate.toNat ≤ 5000)
    (hamount : match o.kind with
      | .volume => 1 ≤ o.amount.toNat ∧ o.amount.toNat ≤ 9999999
      | .fill => o.amount = 0) : parseLoadOrder (orderBytes o) = some o := by
  have h0 : field (orderBytes o) 0 4 = o.orderId.toNat :=
    (field_orderBytes o 0 rfl rfl).trans (beNat_word 4 _ (by decide))
  have h4 : ((orderBytes o).drop 4).take 10 = padTo 10 o.account := by
    rw [orderBytes_parts]
    exact flatten_part 1 _ _ 4 10 (orderParts_widths o) rfl rfl
  have h14 : field (orderBytes o) 14 3 = o.site.toNat :=
    (field_orderBytes o 2 rfl rfl).trans (beNat_word 3 _ (by decide))
  have h17 : field (orderBytes o) 17 1 = productNo o.product :=
    (field_orderBytes o 3 rfl rfl).trans (beNat_number 1 ((productNo_lt _).trans (by decide)))
  have h18 : field (orderBytes o) 18 1 = (presetKindCode o.kind).toNat :=
    (field_orderBytes o 4 rfl rfl).trans (beNat_byte _)
  have h19 : field (orderBytes o) 19 4 = o.amount.toNat :=
    (field_orderBytes o 5 rfl rfl).trans (beNat_word 4 _ (by decide))
  have h23 : field (orderBytes o) 23 1 = (o.plan.map Fin.val).getD 255 :=
    (field_orderBytes o 6 rfl rfl).trans ((beNat_byte _).trans (planCode_toNat _))
  have h24 : field (orderBytes o) 24 2 = o.taxRate.toNat :=
    (field_orderBytes o 7 rfl rfl).trans (beNat_word 2 _ (by decide))
  have hne : ¬ (o.orderId.toNat = 0 ∨ o.account.isEmpty = true ∨ 5000 < o.taxRate.toNat) := by
    rintro (h | h | h)
    · exact hid (BitVec.eq_of_toNat_eq h)
    · rw [List.isEmpty_iff.mp h] at hleast
      exact absurd hleast (by decide)
    · omega
  obtain ⟨id, account, site, product, kind, amount, plan, tax⟩ := o
  simp only [parseLoadOrder, orderBytes_length, h0, h4, h14, h17, h18, h19, h23, h24, parseChars_padTo hmost hchars,
    productOf_productNo]
  cases kind <;> cases plan <;> simp_all [presetKindCode]

/-- The parts of a tier (R113, R199). -/
def tierParts (t : Tier) : List (List Byte) :=
  [[if t.bound.isSome then 1 else 0], beBytes 3 ((t.bound.map BitVec.toNat).getD 0), beBytes 3 t.price.toNat, beBytes 3 t.charge.toNat]

theorem tierBytes_parts (t : Tier) : tierBytes t = (tierParts t).flatten := by
  obtain ⟨bound, price, charge⟩ := t
  cases bound <;> simp [tierBytes, tierParts, layOut, presenceBits, packBits, Item.bytes, beBytes]

theorem tierParts_widths (t : Tier) : (tierParts t).map List.length = [1, 3, 3, 3] := by simp [tierParts]

theorem tierBytes_length (t : Tier) : (tierBytes t).length = 10 := by
  rw [tierBytes_parts, List.length_flatten, tierParts_widths]
  rfl

theorem field_tierBytes (t : Tier) (k : Nat) {off n : Nat} (ho : (List.take k [1, 3, 3, 3]).sum = off)
    (hn : [1, 3, 3, 3][k]? = some n) : field (tierBytes t) off n = beNat ((tierParts t).getD k []) := by
  rw [tierBytes_parts, field_flatten k (tierParts_widths t) ho hn]

/-- A tier within its ranges (R114 check 3). -/
def TierOk (t : Tier) : Prop :=
  (∀ b, t.bound = some b → 1 ≤ b.toNat ∧ b.toNat ≤ 99999) ∧ t.price.toNat ≤ 99999 ∧ t.charge.toNat ≤ 999999

theorem parseTier_tierBytes {t : Tier} (h : TierOk t) : parseTier (tierBytes t) = some t := by
  obtain ⟨hbound, hprice, hcharge⟩ := h
  have h0 : field (tierBytes t) 0 1 = (if t.bound.isSome then 1 else 0 : Byte).toNat :=
    (field_tierBytes t 0 rfl rfl).trans (beNat_byte _)
  have h1 : field (tierBytes t) 1 3 = (t.bound.map BitVec.toNat).getD 0 := by
    refine (field_tierBytes t 1 rfl rfl).trans (beNat_number 3 ?_)
    cases t.bound with
    | none => decide
    | some b => exact b.isLt
  have h4 : field (tierBytes t) 4 3 = t.price.toNat := (field_tierBytes t 2 rfl rfl).trans (beNat_word 3 _ (by decide))
  have h7 : field (tierBytes t) 7 3 = t.charge.toNat := (field_tierBytes t 3 rfl rfl).trans (beNat_word 3 _ (by decide))
  simp only [parseTier, h0, h1, h4, h7]
  obtain ⟨bound, price, charge⟩ := t
  dsimp only at hprice hcharge ⊢
  cases bound with
  | none =>
    rw [if_neg (by simp; omega)]
    simp
  | some b =>
    have hb := hbound b rfl
    rw [if_neg (by simp; omega)]
    simp

theorem parseTiers_tierBytes {ts : List Tier} (h : ∀ t ∈ ts, TierOk t) :
    parseTiers ts.length (ts.map tierBytes).flatten = some ts := by
  induction ts with
  | nil => rfl
  | cons t ts ih =>
    obtain ⟨ht, hts⟩ := List.forall_mem_cons.mp h
    have hlen := tierBytes_length t
    rw [List.map_cons, List.flatten_cons, List.length_cons, parseTiers, List.take_append_of_le_length hlen.ge,
      List.take_of_length_le hlen.le, List.drop_append_of_le_length hlen.ge, List.drop_of_length_le hlen.le, List.nil_append,
      parseTier_tierBytes ht, ih hts]

/-- A plan reads back (R113). -/
theorem parseWritePlan_planBytes {n : PlanNo} {ts : List Tier} (hlen : ts.length ≤ 8) (h : ∀ t ∈ ts, TierOk t) :
    parseWritePlan (planBytes n.val ts) = some (n, ts) := by
  let ps := [beBytes 1 n.val, beBytes 1 ts.length, (ts.map tierBytes).flatten]
  have hbody : planBytes n.val ts = ps.flatten := by simp [ps, planBytes]
  have hsum : (ts.map tierBytes).flatten.length = 10 * ts.length := by
    rw [List.length_flatten, List.map_map, List.map_congr_left (f := List.length ∘ tierBytes) fun t _ => tierBytes_length t]
    simp [Nat.mul_comm]
  have hw : ps.map List.length = [1, 1, 10 * ts.length] := by simp only [ps, List.map_cons, List.map_nil, beBytes_length, hsum]
  have hnumber : field (planBytes n.val ts) 0 1 = n.val := by
    rw [hbody]
    exact (field_flatten 0 hw rfl rfl).trans (beNat_number 1 (n.isLt.trans (by decide)))
  have hcount : field (planBytes n.val ts) 1 1 = ts.length := by
    rw [hbody]
    exact (field_flatten 1 hw rfl rfl).trans (beNat_number 1 (hlen.trans_lt (by decide)))
  have hlength : (planBytes n.val ts).length = 2 + 10 * ts.length := by
    rw [hbody, List.length_flatten, hw]
    simp only [List.sum_cons, List.sum_nil]
    omega
  have hdrop : (planBytes n.val ts).drop 2 = (ts.map tierBytes).flatten := by
    rw [planBytes]
    exact List.drop_left' (by simp)
  simp only [parseWritePlan, hnumber, hcount, hlength, hdrop, n.isLt, dif_pos, parseTiers_tierBytes h]
  rw [if_neg (by simp [hlen])]
  rfl

/-- A product's settings read back (R149). -/
theorem parseSettings_settingsBytes {p : Product} {c : Settings} (hname : c.name.length ≤ 12)
    (hchars : ∀ x ∈ c.name, 32 ≤ x.toNat ∧ x.toNat ≤ 126) (hslow : c.slowDown.toNat ≤ 99999) (hleast : 5 ≤ c.noFlow.toNat)
    (hmost : c.noFlow.toNat ≤ 120) : parseSettings (beBytes 1 (productNo p) ++ settingsBytes c) = some (p, c) := by
  let ps := [beBytes 1 (productNo p), padTo 12 c.name, beBytes 3 c.slowDown.toNat, beBytes 1 c.noFlow.toNat]
  have hbody : beBytes 1 (productNo p) ++ settingsBytes c = ps.flatten := by simp [ps, settingsBytes]
  have hw : ps.map List.length = [1, 12, 3, 1] := by simp [ps]
  have h0 : field ps.flatten 0 1 = productNo p :=
    (field_flatten 0 hw rfl rfl).trans (beNat_number 1 ((productNo_lt p).trans (by decide)))
  have h1 : (ps.flatten.drop 1).take 12 = padTo 12 c.name := flatten_part 1 _ _ 1 12 hw rfl rfl
  have h13 : field ps.flatten 13 3 = c.slowDown.toNat := (field_flatten 2 hw rfl rfl).trans (beNat_word 3 _ (by decide))
  have h16 : field ps.flatten 16 1 = c.noFlow.toNat := (field_flatten 3 hw rfl rfl).trans (beNat_word 1 _ (by decide))
  have hlength : ps.flatten.length = 17 := by rw [List.length_flatten, hw]; rfl
  rw [hbody]
  simp only [parseSettings, hlength, h0, h1, h13, h16, productOf_productNo, parseChars_padTo hname hchars]
  rw [if_neg (by simp), if_neg (by omega)]
  simp

/-- The parts of a record's contents (R147). -/
def contentParts : CalRecord → List (List Byte)
  | .line _ c => [beBytes 2 c.lowMax.toNat, beBytes 2 c.highMin.toNat, beBytes 1 c.tolerance.toNat, beBytes 1 c.creepLimit.toNat,
      beBytes 2 c.probeOffset.toNat]
  | .meter _ _ c => [beBytes 2 c.low.b.toNat, beBytes 1 c.low.t.toNat, beBytes 2 c.main.b.toNat, beBytes 1 c.main.t.toNat,
      beBytes 2 c.high.b.toNat, beBytes 1 c.high.t.toNat]
  | .product _ c => [beBytes 2 c.alpha.toNat, beBytes 2 c.fallback.toNat, [match c.basis with | .gross => 0 | .net => 1]]

theorem contentBytes_parts (c : CalRecord) : contentBytes c = (contentParts c).flatten := by
  rcases c with ⟨l, c⟩ | ⟨l, p, c⟩ | ⟨p, c⟩
  · simp [contentBytes, contentParts]
  · simp [contentBytes, contentParts, factorBytes]
  · cases hbasis : c.basis <;> simp [contentBytes, contentParts, hbasis]

theorem contentBytes_length (c : CalRecord) : (contentBytes c).length = contentLength c.id := by
  rw [contentBytes_parts, List.length_flatten]
  rcases c with ⟨l, c⟩ | ⟨l, p, c⟩ | ⟨p, c⟩ <;> simp [contentParts, contentLength, CalRecord.id]

/-- A word that is one part of a record's contents. -/
theorem word_contentBytes {c : CalRecord} {widths : List Nat} (hw : (contentParts c).map List.length = widths) (k : Nat)
    {off n w : Nat} {x : BitVec w} (ho : (widths.take k).sum = off) (hn : widths[k]? = some n)
    (hx : (contentParts c).getD k [] = beBytes n x.toNat) (h : 2 ^ w ≤ 256 ^ n) :
    BitVec.ofNat w (field (contentBytes c) off n) = x := by
  rw [contentBytes_parts, field_flatten k hw ho hn, hx, beNat_word n x h, BitVec.ofNat_toNat, BitVec.setWidth_eq]

/-- The contents of a record read back (R147). -/
theorem parseContents_contentBytes (c : CalRecord) : parseContents c.id (contentBytes c) = some c := by
  have hlen := contentBytes_length c
  unfold parseContents
  rw [if_neg (not_not.mpr hlen)]
  rcases c with ⟨l, c⟩ | ⟨l, p, c⟩ | ⟨p, c⟩
  · have hw : (contentParts (.line l c)).map List.length = [2, 2, 1, 1, 2] := by simp [contentParts]
    have hlow : BitVec.ofNat 16 (field (contentBytes (.line l c)) 0 2) = c.lowMax := word_contentBytes hw 0 rfl rfl rfl (by decide)
    have hhigh : BitVec.ofNat 16 (field (contentBytes (.line l c)) 2 2) = c.highMin := word_contentBytes hw 1 rfl rfl rfl (by decide)
    have htol : BitVec.ofNat 8 (field (contentBytes (.line l c)) 4 1) = c.tolerance := word_contentBytes hw 2 rfl rfl rfl (by decide)
    have hcreep : BitVec.ofNat 8 (field (contentBytes (.line l c)) 5 1) = c.creepLimit := word_contentBytes hw 3 rfl rfl rfl (by decide)
    have hprobe : BitVec.ofNat 16 (field (contentBytes (.line l c)) 6 2) = c.probeOffset := word_contentBytes hw 4 rfl rfl rfl (by decide)
    simp only [CalRecord.id, hlow, hhigh, htol, hcreep, hprobe]
  · have hw : (contentParts (.meter l p c)).map List.length = [2, 1, 2, 1, 2, 1] := by simp [contentParts]
    have hlow : parseFactor (contentBytes (.meter l p c)) 0 = c.low :=
      congrArg₂ Factor.mk (word_contentBytes hw 0 rfl rfl rfl (by decide)) (word_contentBytes hw 1 rfl rfl rfl (by decide))
    have hmain : parseFactor (contentBytes (.meter l p c)) 3 = c.main :=
      congrArg₂ Factor.mk (word_contentBytes hw 2 rfl rfl rfl (by decide)) (word_contentBytes hw 3 rfl rfl rfl (by decide))
    have hhigh : parseFactor (contentBytes (.meter l p c)) 6 = c.high :=
      congrArg₂ Factor.mk (word_contentBytes hw 4 rfl rfl rfl (by decide)) (word_contentBytes hw 5 rfl rfl rfl (by decide))
    simp only [CalRecord.id, hlow, hmain, hhigh]
  · have hw : (contentParts (.product p c)).map List.length = [2, 2, 1] := by simp [contentParts]
    have halpha : BitVec.ofNat 16 (field (contentBytes (.product p c)) 0 2) = c.alpha := word_contentBytes hw 0 rfl rfl rfl (by decide)
    have hfallback : BitVec.ofNat 16 (field (contentBytes (.product p c)) 2 2) = c.fallback :=
      word_contentBytes hw 1 rfl rfl rfl (by decide)
    have hbasis : field (contentBytes (.product p c)) 4 1 = beNat ((contentParts (.product p c)).getD 2 []) := by
      rw [contentBytes_parts]
      exact field_flatten 2 hw rfl rfl
    simp only [CalRecord.id, halpha, hfallback, hbasis]
    obtain ⟨alpha, fallback, basis⟩ := c
    cases basis <;> rfl

/-- An accepted calibration record reads back (R151). -/
theorem parseWriteRecord_contentBytes {c : CalRecord} (h : recordInRange c = true) :
    parseWriteRecord (beBytes 1 (recordNo c.id) ++ contentBytes c) = some c := by
  have hid : field (beBytes 1 (recordNo c.id) ++ contentBytes c) 0 1 = recordNo c.id := by
    rw [field_append_left (by simp), field_beBytes]
    exact Nat.mod_eq_of_lt ((recordNo_lt _).trans (by decide))
  have hdrop : (beBytes 1 (recordNo c.id) ++ contentBytes c).drop 1 = contentBytes c := List.drop_left' (by simp)
  rw [parseWriteRecord, hid, recordOf_recordNo, hdrop]
  simp only [parseContents_contentBytes, h, if_true]

/-! ## The bodies of the other requests (R195, R199) -/

theorem field_one (n : Nat) (h : n < 256) : field (beBytes 1 n) 0 1 = n := by
  rw [field_beBytes]
  exact Nat.mod_eq_of_lt h

theorem parseLine_line (l : LineId) : parseLine (beBytes 1 (lineNo l)) = some l := by
  cases l <;> rfl

/-- A line's number and what follows it. -/
theorem field_line (l : LineId) (rest : List Byte) : field (beBytes 1 (lineNo l) ++ rest) 0 1 = lineNo l := by
  rw [field_append_left (by simp)]
  exact field_one _ ((lineNo_lt l).trans (by decide))

/-- A number that ends a body. -/
theorem field_last {pre : List Byte} {off n v : Nat} (hpre : pre.length = off) (hv : v < 256 ^ n) :
    field (pre ++ beBytes n v) off n = v := by
  rw [field_append_right hpre.le, hpre, Nat.sub_self, field_beBytes, Nat.mod_eq_of_lt hv]

theorem parseArm_body (l : LineId) (n : SlotNo) : parseArm (beBytes 1 (lineNo l) ++ beBytes 1 n.val) = some (l, n) := by
  have hlast : field (beBytes 1 (lineNo l) ++ beBytes 1 n.val) 1 1 = n.val :=
    field_last (by simp) (n.isLt.trans (by decide))
  simp only [parseArm, field_line, hlast, lineOf_lineNo, n.isLt, dif_pos]
  rfl

theorem parseSlot_body (n : SlotNo) : parseSlot (beBytes 1 n.val) = some n := by
  simp only [parseSlot, field_one n.val (n.isLt.trans (by decide)), n.isLt, dif_pos]
  rfl

theorem parsePlanNo_body (n : PlanNo) : parsePlanNo (beBytes 1 n.val) = some n := by
  simp only [parsePlanNo, field_one n.val (n.isLt.trans (by decide)), n.isLt, dif_pos]
  rfl

theorem parsePosition_body {k : Nat} (h : k ≤ 31) : parsePosition (beBytes 1 k) = some k := by
  simp only [parsePosition, field_one k (h.trans_lt (by decide)), beBytes_length, h, and_self, if_true]

theorem parseRecordId_body (r : RecordId) : parseRecordId (beBytes 1 (recordNo r)) = some r := by
  simp only [parseRecordId, field_one _ ((recordNo_lt r).trans (by decide)), beBytes_length, if_true, recordOf_recordNo]

theorem parseAdd_body (l : LineId) {amount : Nat} (hlow : 1 ≤ amount) (hhigh : amount ≤ 9999999) :
    parseAdd (beBytes 1 (lineNo l) ++ beBytes 3 amount) = some (l, amount) := by
  have hlast : field (beBytes 1 (lineNo l) ++ beBytes 3 amount) 1 3 = amount :=
    field_last (by simp) (hhigh.trans_lt (by decide))
  simp only [parseAdd, field_line, hlast, List.length_append, beBytes_length, lineOf_lineNo, Option.map_some]
  rw [if_pos ⟨trivial, hlow, hhigh⟩]

/-- The fields of an ARM_TEST body (R49, R199). -/
theorem parseArmTest_body (l : LineId) (p : Product) (present : Byte) {amount : Nat} (hamount : amount < 256 ^ 3) :
    parseArmTest ([present] ++ beBytes 1 (lineNo l) ++ beBytes 1 (productNo p) ++ beBytes 3 amount) =
      if present.toNat % 2 = 0 then some (l, p, none)
      else if 1 ≤ amount ∧ amount ≤ 9999999 then some (l, p, some amount) else none := by
  let ps := [[present], beBytes 1 (lineNo l), beBytes 1 (productNo p), beBytes 3 amount]
  have hbody : [present] ++ beBytes 1 (lineNo l) ++ beBytes 1 (productNo p) ++ beBytes 3 amount = ps.flatten := by simp [ps]
  have hw : ps.map List.length = [1, 1, 1, 3] := by simp [ps]
  have h0 : field ps.flatten 0 1 = present.toNat := (field_flatten 0 hw rfl rfl).trans (beNat_byte _)
  have h1 : field ps.flatten 1 1 = lineNo l :=
    (field_flatten 1 hw rfl rfl).trans (beNat_number 1 ((lineNo_lt l).trans (by decide)))
  have h2 : field ps.flatten 2 1 = productNo p :=
    (field_flatten 2 hw rfl rfl).trans (beNat_number 1 ((productNo_lt p).trans (by decide)))
  have h3 : field ps.flatten 3 3 = amount := (field_flatten 3 hw rfl rfl).trans (beNat_number 3 hamount)
  have hlength : ps.flatten.length = 6 := by rw [List.length_flatten, hw]; rfl
  rw [hbody]
  simp only [parseArmTest, hlength, h0, h1, h2, h3, lineOf_lineNo, productOf_productNo]
  rw [if_neg (by decide)]

theorem field_number32 {n : Nat} (h : n < 4294967296) : field (beBytes 4 n) 0 4 = n := by
  rw [field_beBytes]
  exact Nat.mod_eq_of_lt h

theorem parseNumber32_body {n : Nat} (h : n < 4294967296) : parseNumber32 (beBytes 4 n) = some n := by
  rw [parseNumber32, field_number32 h, if_pos (beBytes_length 4 n)]

theorem parseOrderId_body {n : Nat} (h : n < 4294967296) (hpos : 1 ≤ n) : parseOrderId (beBytes 4 n) = some n := by
  rw [parseOrderId, field_number32 h, if_pos ⟨beBytes_length 4 n, Nat.pos_iff_ne_zero.mp hpos⟩]

theorem parseNumberOrKeyword_number {n : Nat} (h : n < 4294967296) (hpos : 1 ≤ n) :
    parseNumberOrKeyword ([0x01] ++ beBytes 4 n) = some (some n) := by
  have hlast : field ([0x01] ++ beBytes 4 n) 1 4 = n := field_last rfl h
  have hpresent : field ([0x01] ++ beBytes 4 n) 0 1 = 1 := by
    rw [field_append_left (by simp)]
    rfl
  rw [parseNumberOrKeyword, hpresent, hlast, if_neg (by simp), if_neg (by decide), if_neg (by omega)]

theorem parseSearch_body (key mask : BitVec 24) : parseSearch (beBytes 3 key.toNat ++ beBytes 3 mask.toNat) = some (key, mask) := by
  have hkey : field (beBytes 3 key.toNat ++ beBytes 3 mask.toNat) 0 3 = key.toNat := by
    rw [field_append_left (by simp), field_beBytes]
    exact Nat.mod_eq_of_lt key.isLt
  have hmask : field (beBytes 3 key.toNat ++ beBytes 3 mask.toNat) 3 3 = mask.toNat := field_last (by simp) mask.isLt
  rw [parseSearch, hkey, hmask, if_pos (by simp)]
  simp

/-- Settles O57: each body by the lemma about its parser. -/
theorem bodiesReadBackAsWritten : Obligations.BodiesReadBackAsWritten := by
  refine ⟨fun o hid hleast hmost hchars htax hamount => ?_, fun n ts hlen hts => ?_, fun p c hname hchars hslow hleast hmost => ?_,
    fun c hc => parseWriteRecord_contentBytes hc, fun l n p amount hlow hhigh => ?_, fun number hnumber => ?_, rfl,
    fun k hk => parsePosition_body hk, parsePlanNo_body, parseRecordId_body, parseSearch_body⟩
  · rw [loadBody_eq]
    exact parseLoadOrder_orderBytes hid hleast hmost hchars htax hamount
  · rw [planData_eq]
    exact parseWritePlan_planBytes hlen hts
  · have hbody := parseSettings_settingsBytes (p := p) (c := c) hname hchars hslow hleast hmost
    rwa [settingsBytes, ← List.append_assoc, ← List.append_assoc] at hbody
  · refine ⟨parseLine_line l, parseArm_body l n, parseSlot_body n, parseAdd_body l hlow hhigh, ?_, ?_⟩
    · rw [parseArmTest_body l p _ (hhigh.trans_lt (by decide)), if_neg (by decide), if_pos ⟨hlow, hhigh⟩]
    · rw [parseArmTest_body l p _ (by decide), if_pos (by decide)]
  · exact ⟨parseNumber32_body hnumber, fun hpos => ⟨parseOrderId_body hnumber hpos, parseNumberOrKeyword_number hnumber hpos⟩⟩

end Sys2Proof.Safety
end

section
/-! PROOF. What each parser refuses: just the bodies outside the lengths and ranges of their requests. -/

namespace Sys2Proof.Safety

open Sys2Proof.Machine

/-! ## Bodies of one or two numbers -/

theorem eq_none_iff_not_exists {α : Type} (o : Option α) : o = none ↔ ¬ ∃ a, o = some a := by
  cases o <;> simp

section
variable (body : List Byte)

theorem parseLine_none_iff : parseLine body = none ↔ ¬ (body.length = 1 ∧ field body 0 1 ≤ 1) := by
  rw [parseLine, ← lineOf_isSome_iff]
  by_cases hlen : body.length = 1 <;> simp [hlen, eq_none_iff_not_exists]

theorem parseOrderId_none_iff : parseOrderId body = none ↔ ¬ InRange .withdrawOrder body := by
  simp [parseOrderId, InRange]

theorem parseSlot_none_iff : parseSlot body = none ↔ ¬ InRange .readOrders body := by
  by_cases hlen : body.length = 1 <;> simp [parseSlot, InRange, hlen]
  omega

theorem parseSearch_none_iff : parseSearch body = none ↔ ¬ InRange .searchOrder body := by
  simp [parseSearch, InRange]

theorem parsePlanNo_none_iff : parsePlanNo body = none ↔ ¬ InRange .readPlan body := by
  by_cases hlen : body.length = 1 <;> simp [parsePlanNo, InRange, hlen]
  omega

theorem parseNumber32_none_iff : parseNumber32 body = none ↔ ¬ body.length = 4 := by
  simp [parseNumber32]

theorem parseNumberOrKeyword_none_iff : parseNumberOrKeyword body = none ↔
    ¬ (body.length = 5 ∧ (field body 0 1 % 2 = 0 ∨ field body 1 4 ≠ 0)) := by
  by_cases hlen : body.length = 5
  · by_cases hkey : field body 0 1 % 2 = 0 <;> simp [parseNumberOrKeyword, hlen, hkey]
  · simp [parseNumberOrKeyword, hlen]

theorem parsePosition_none_iff : parsePosition body = none ↔ ¬ InRange .readFaultLog body := by
  simp [parsePosition, InRange]

theorem parseRecordId_none_iff : parseRecordId body = none ↔ ¬ InRange .readRecord body := by
  rw [parseRecordId, InRange, ← recordOf_isSome_iff]
  by_cases hlen : body.length = 1 <;> simp [hlen, eq_none_iff_not_exists]

theorem parseArm_none_iff : parseArm body = none ↔ ¬ InRange .arm body := by
  rw [parseArm, InRange, ← lineOf_isSome_iff]
  by_cases hlen : body.length = 2
  · cases hline : lineOf? (field body 0 1) with
    | none => simp [hlen]
    | some l =>
      simp [hlen]
      omega
  · simp [hlen]

theorem parseAdd_none_iff : parseAdd body = none ↔ ¬ InRange .add body := by
  rw [parseAdd, InRange, ← lineOf_isSome_iff]
  by_cases hin : body.length = 4 ∧ 1 ≤ field body 1 3 ∧ field body 1 3 ≤ 9999999
  · rw [if_pos hin, Option.map_eq_none_iff, eq_none_iff_not_exists]
    tauto
  · rw [if_neg hin]
    tauto

theorem parseArmTest_none_iff : parseArmTest body = none ↔ ¬ InRange .armTest body := by
  rw [parseArmTest, InRange, ← lineOf_isSome_iff, ← productOf_isSome_iff]
  by_cases hlen : body.length = 6
  · cases hline : lineOf? (field body 1 1) with
    | none => simp [hlen]
    | some l =>
      cases hproduct : productOf? (field body 2 1) with
      | none => simp [hlen]
      | some p =>
        by_cases hkey : field body 0 1 % 2 = 0 <;> simp [hlen, hkey]
  · simp [hlen]

theorem parseSettings_none_iff : parseSettings body = none ↔ ¬ InRange .writeProductSettings body := by
  rw [parseSettings, InRange, ← productOf_isSome_iff, charField_iff]
  by_cases hlen : body.length = 17
  · cases hproduct : productOf? (field body 0 1) with
    | none => simp [hlen]
    | some p =>
      cases hname : parseChars ((body.drop 1).take 12) with
      | none => simp [hlen]
      | some name => simp [hlen]
  · simp [hlen]

/-! ## LOAD_ORDER (R97 check 1) -/

end

/-- The preset kind of an order body, with its amount in the kind's range (R97). -/
def kindOf? (kind amount : Nat) : Option PresetKind :=
  match kind with
  | 0 => if 1 ≤ amount ∧ amount ≤ 9999999 then some .volume else none
  | 1 => if amount = 0 then some .fill else none
  | _ => none

/-- The plan of an order body: 0 to 7, or none for 255 (R97). -/
def planOf? (plan : Nat) : Option (Option PlanNo) :=
  if h : plan < 8 then some (some ⟨plan, h⟩) else if plan = 255 then some none else none

theorem kindOf_isSome_iff (kind amount : Nat) : (∃ x, kindOf? kind amount = some x) ↔
    kind = 0 ∧ 1 ≤ amount ∧ amount ≤ 9999999 ∨ kind = 1 ∧ amount = 0 := by
  match kind with
  | 0 => simp [kindOf?]
  | 1 => simp [kindOf?]
  | k + 2 => simp [kindOf?]

theorem planOf_isSome_iff (plan : Nat) : (∃ x, planOf? plan = some x) ↔ plan ≤ 7 ∨ plan = 255 := by
  unfold planOf?
  by_cases h8 : plan < 8
  · simp [h8]
    omega
  · by_cases h255 : plan = 255
    · simp [h255]
    · simp [h8, h255]
      omega

/-- LOAD_ORDER's parser as a sequence of its fields' parsers. -/
theorem parseLoadOrder_isSome_iff (body : List Byte) : (∃ o, parseLoadOrder body = some o) ↔
    body.length = 26 ∧ ∃ account product kind plan, parseChars ((body.drop 4).take 10) = some account ∧
      productOf? (field body 17 1) = some product ∧ kindOf? (field body 18 1) (field body 19 4) = some kind ∧
      planOf? (field body 23 1) = some plan ∧ ¬ (field body 0 4 = 0 ∨ account.isEmpty = true ∨ 5000 < field body 24 2) := by
  change (∃ o, (if body.length ≠ 26 then none else
    match parseChars ((body.drop 4).take 10), productOf? (field body 17 1) with
    | some account, some product =>
      match kindOf? (field body 18 1) (field body 19 4), planOf? (field body 23 1) with
      | some kind, some p =>
        if field body 0 4 = 0 ∨ account.isEmpty ∨ 5000 < field body 24 2 then none
        else some (OrderCopy.mk (BitVec.ofNat 32 (field body 0 4)) account (BitVec.ofNat 24 (field body 14 3)) product kind
          (BitVec.ofNat 32 (field body 19 4)) p (BitVec.ofNat 16 (field body 24 2)))
      | _, _ => none
    | _, _ => none) = some o) ↔ _
  cases parseChars ((body.drop 4).take 10) with
  | none => simp
  | some account =>
    cases productOf? (field body 17 1) with
    | none => simp
    | some product =>
      cases kindOf? (field body 18 1) (field body 19 4) with
      | none => simp
      | some kind =>
        cases planOf? (field body 23 1) with
        | none => simp
        | some plan => simp

theorem parseLoadOrder_none_iff (body : List Byte) : parseLoadOrder body = none ↔ ¬ InRange .loadOrder body := by
  rw [eq_none_iff_not_exists, parseLoadOrder_isSome_iff, InRange, ← productOf_isSome_iff, charField_iff, ← kindOf_isSome_iff,
    ← planOf_isSome_iff]
  refine not_congr (and_congr_right fun _ => ⟨?_, ?_⟩)
  · rintro ⟨account, product, kind, plan, haccount, hproduct, hkind, hplan, hrest⟩
    simp only [List.isEmpty_iff_length_eq_zero, not_or] at hrest
    exact ⟨hrest.1, ⟨account, haccount, by omega⟩, ⟨product, hproduct⟩, ⟨kind, hkind⟩, ⟨plan, hplan⟩, by omega⟩
  · rintro ⟨hid, ⟨account, haccount, hleast⟩, ⟨product, hproduct⟩, ⟨kind, hkind⟩, ⟨plan, hplan⟩, htax⟩
    refine ⟨account, product, kind, plan, haccount, hproduct, hkind, hplan, ?_⟩
    simp only [List.isEmpty_iff_length_eq_zero]
    omega

section
variable (body : List Byte)

/-! ## WRITE_PLAN (R114 checks 1 to 3) -/

/-- A tier's fields within their ranges, at an offset of a body (R113, R114). -/
def TierIn (b : List Byte) (off : Nat) : Prop :=
  (field b off 1 % 2 = 0 ∨ 1 ≤ field b (off + 1) 3 ∧ field b (off + 1) 3 ≤ 99999) ∧
    field b (off + 4) 3 ≤ 99999 ∧ field b (off + 7) 3 ≤ 999999

theorem parseTier_none_iff : parseTier (body.take 10) = none ↔ ¬ TierIn body 0 := by
  simp only [parseTier, TierIn, field_take (b := body) (m := 10) (off := 0) (n := 1) (by decide),
    field_take (b := body) (m := 10) (off := 1) (n := 3) (by decide),
    field_take (b := body) (m := 10) (off := 4) (n := 3) (by decide),
    field_take (b := body) (m := 10) (off := 7) (n := 3) (by decide)]
  simp only [ite_eq_left_iff, reduceCtorEq, imp_false, not_not, Nat.zero_add]
  omega

theorem parseTiers_none_iff (n : Nat) : parseTiers n body = none ↔ ¬ ∀ i < n, TierIn body (10 * i) := by
  induction n generalizing body with
  | zero => simp [parseTiers]
  | succ n ih =>
    have hshift : ∀ i, TierIn (body.drop 10) (10 * i) ↔ TierIn body (10 * (i + 1)) := fun i => by
      simp only [TierIn, field_drop]
      rw [show 10 + 10 * i = 10 * (i + 1) by ring, ← Nat.add_assoc, ← Nat.add_assoc, ← Nat.add_assoc,
        show 10 + 10 * i = 10 * (i + 1) by ring]
    have hall : (∀ i < n + 1, TierIn body (10 * i)) ↔ TierIn body 0 ∧ ∀ i < n, TierIn (body.drop 10) (10 * i) := by
      simp only [hshift, Nat.forall_lt_succ_left, Nat.mul_zero]
    have hfirst := parseTier_none_iff body
    have hrest := ih (body.drop 10)
    rw [hall, parseTiers]
    cases ht : parseTier (body.take 10) with
    | none => simp_all
    | some t => cases hts : parseTiers n (body.drop 10) <;> simp_all

theorem parseWritePlan_none_iff : parseWritePlan body = none ↔ ¬ InRange .writePlan body := by
  have hrange : InRange .writePlan body ↔ field body 0 1 ≤ 7 ∧ field body 1 1 ≤ 8 ∧ body.length = 2 + 10 * field body 1 1 ∧
      ∀ i < field body 1 1, TierIn (body.drop 2) (10 * i) := by
    simp only [InRange, TierIn, field_drop]
    refine and_congr_right fun _ => and_congr_right fun _ => and_congr_right fun _ => forall₂_congr fun i _ => ?_
    rw [show 3 + 10 * i = 2 + (10 * i + 1) by ring, show 6 + 10 * i = 2 + (10 * i + 4) by ring,
      show 9 + 10 * i = 2 + (10 * i + 7) by ring]
  rw [hrange, parseWritePlan]
  by_cases hnumber : field body 0 1 < 8
  · rw [dif_pos hnumber]
    by_cases hlen : 8 < field body 1 1 ∨ body.length ≠ 2 + 10 * field body 1 1
    · rw [if_pos hlen]
      refine iff_of_true rfl ?_
      omega
    · rw [if_neg hlen, Option.map_eq_none_iff, parseTiers_none_iff]
      refine not_congr ⟨fun h => ⟨by omega, by omega, by omega, h⟩, fun h => h.2.2.2⟩
  · rw [dif_neg hnumber]
    refine iff_of_true rfl ?_
    omega

/-! ## WRITE_RECORD (R147, R151 check 2) -/

/-- The three kinds of record by their numbers (R147). -/
theorem recordOf_kind {n : Nat} {r : RecordId} (h : recordOf? n = some r) :
    (n ≤ 1 ∧ ∃ l, r = .line l) ∨ (2 ≤ n ∧ n ≤ 9 ∧ ∃ l p, r = .meter l p) ∨ (10 ≤ n ∧ n ≤ 13 ∧ ∃ p, r = .product p) := by
  have hn : n ≤ 13 := (recordOf_isSome_iff n).mp ⟨r, h⟩
  interval_cases n <;> simp [recordOf?, allRecords] at h <;> subst h <;> simp

end

theorem field_word_toNat (b : List Byte) (off n w : Nat) (h : 256 ^ n ≤ 2 ^ w) : (BitVec.ofNat w (field b off n)).toNat = field b off n := by
  rw [BitVec.toNat_ofNat, Nat.mod_eq_of_lt ((field_lt b off n).trans_le h)]

/-- The contents of a LINE record within their ranges (R147). -/
theorem lineContents_iff (l : LineId) (bs : List Byte) :
    (∃ c, parseContents (.line l) bs = some c ∧ recordInRange c = true) ↔
      bs.length = 8 ∧ field bs 0 2 < field bs 2 2 ∧ field bs 4 1 ≤ 15 ∧ 1 ≤ field bs 5 1 ∧
        -200 ≤ signedField bs 6 ∧ signedField bs 6 ≤ 200 := by
  unfold parseContents
  by_cases hlen : bs.length = 8
  · simp only [contentLength, hlen, ne_eq, not_true_eq_false, if_false, Option.some.injEq, exists_eq_left', recordInRange,
      Bool.and_eq_true, decide_eq_true_eq, field_word_toNat bs _ 2 16 (by decide), field_word_toNat bs _ 1 8 (by decide),
      signedField, true_and, and_assoc]
  · simp [contentLength, hlen]

theorem factorInRange_iff (bs : List Byte) (off : Nat) : factorInRange (parseFactor bs off) = true ↔
    100 ≤ field bs off 2 ∧ field bs (off + 2) 1 ≤ 15 := by
  simp only [factorInRange, parseFactor, Bool.and_eq_true, decide_eq_true_eq, field_word_toNat bs _ 2 16 (by decide),
    field_word_toNat bs _ 1 8 (by decide)]

/-- The contents of a METER_FACTOR record within their ranges (R147). -/
theorem meterContents_iff (l : LineId) (p : Product) (bs : List Byte) :
    (∃ c, parseContents (.meter l p) bs = some c ∧ recordInRange c = true) ↔
      bs.length = 9 ∧ ∀ o, o = 0 ∨ o = 3 ∨ o = 6 → 100 ≤ field bs o 2 ∧ field bs (o + 2) 1 ≤ 15 := by
  unfold parseContents
  by_cases hlen : bs.length = 9
  · simp only [contentLength, hlen, ne_eq, not_true_eq_false, if_false, Option.some.injEq, exists_eq_left', recordInRange,
      Bool.and_eq_true, factorInRange_iff, true_and, forall_eq_or_imp, forall_eq, and_assoc]
  · simp [contentLength, hlen]

/-- The contents of a PRODUCT record within their ranges (R147). -/
theorem productContents_iff (p : Product) (bs : List Byte) :
    (∃ c, parseContents (.product p) bs = some c ∧ recordInRange c = true) ↔
      bs.length = 5 ∧ field bs 0 2 ≤ 2000 ∧ -4000 ≤ signedField bs 2 ∧ signedField bs 2 ≤ 6000 ∧ field bs 4 1 ≤ 1 := by
  unfold parseContents
  by_cases hlen : bs.length = 5
  · match hbasis : field bs 4 1 with
    | 0 => simp [contentLength, hlen, recordInRange, signedField, field_word_toNat bs _ 2 16 (by decide), and_assoc]
    | 1 => simp [contentLength, hlen, recordInRange, signedField, field_word_toNat bs _ 2 16 (by decide), and_assoc]
    | n + 2 => simp [contentLength, hlen]
  · simp [contentLength, hlen]

theorem parseWriteRecord_none_iff (body : List Byte) : parseWriteRecord body = none ↔ ¬ InRange .writeRecord body := by
  have hsome : (∃ c, parseWriteRecord body = some c) ↔
      ∃ r, recordOf? (field body 0 1) = some r ∧ ∃ c, parseContents r (body.drop 1) = some c ∧ recordInRange c = true := by
    rw [parseWriteRecord]
    cases recordOf? (field body 0 1) with
    | none => simp
    | some r =>
      simp only [Option.some.injEq, exists_eq_left']
      cases parseContents r (body.drop 1) <;> simp
  have hlen : ∀ n, (body.drop 1).length = n + 1 ↔ body.length = n + 2 := fun n => by
    rw [List.length_drop]
    omega
  have hsigned : ∀ off, signedField (body.drop 1) off = signedField body (1 + off) := fun off => by
    rw [signedField, signedField, field_drop]
  have hline := fun l => lineContents_iff l (body.drop 1)
  have hmeter := fun l p => meterContents_iff l p (body.drop 1)
  have hproduct := fun p => productContents_iff p (body.drop 1)
  simp only [hlen, field_drop, hsigned, forall_eq_or_imp, forall_eq] at hline hmeter hproduct
  rw [eq_none_iff_not_exists, hsome]
  simp only [InRange, forall_eq_or_imp, forall_eq]
  refine not_congr ⟨?_, fun h => ?_⟩
  · rintro ⟨r, hr, hc⟩
    rcases recordOf_kind hr with ⟨hn, l, rfl⟩ | ⟨hn, hn', l, p, rfl⟩ | ⟨hn, hn', p, rfl⟩
    · exact .inl ⟨hn, (hline l).mp hc⟩
    · exact .inr (.inl ⟨hn, hn', (hmeter l p).mp hc⟩)
    · exact .inr (.inr ⟨hn, hn', (hproduct p).mp hc⟩)
  · have hn : field body 0 1 ≤ 13 := by
      rcases h with h | h | h
      · exact h.1.trans (by decide)
      · exact h.2.1.trans (by decide)
      · exact h.2.1
    obtain ⟨r, hr⟩ := (recordOf_isSome_iff _).mpr hn
    refine ⟨r, hr, ?_⟩
    rcases recordOf_kind hr with ⟨hle, l, rfl⟩ | ⟨hge, hle, l, p, rfl⟩ | ⟨hge, hle, p, rfl⟩
    · refine (hline l).mpr ?_
      rcases h with h | h | h
      · exact h.2
      · omega
      · omega
    · refine (hmeter l p).mpr ?_
      rcases h with h | h | h
      · omega
      · exact h.2.2
      · omega
    · refine (hproduct p).mpr ?_
      rcases h with h | h | h
      · omega
      · omega
      · exact h.2.2

/-! ## Refusals (R189) -/

section
variable {link : Link} {body : List Byte} {s : State} {k : RequestKind} {own : Work → Reply × Work}

/-- A request whose parser answers none is refused with OUT_OF_RANGE. -/
theorem request_outOfRange (hown : own ⟨asked s link k body, []⟩ = (.refused .outOfRange, ⟨asked s link k body, []⟩))
    (htakes : Takes s link k) : request link k body own s = .next (answered s link k body (.refused .outOfRange)) :=
  request_answered htakes hown

theorem parseEmpty_none (h : body ≠ []) : parseEmpty body = none :=
  if_neg (List.length_eq_zero_iff.not.mpr h)

end

/-- Settles O11: each owner judges its parser's answer first, and each parser's answer is its range. -/
theorem outOfRangeIsRefused : Obligations.OutOfRangeIsRefused := by
  intro link body s no
  refine ⟨fun ht h => request_outOfRange (by simp only [ownLoadOrder, h]) ht,
    fun ht h => request_outOfRange (by simp only [ownWithdrawOrder, h]) ht,
    fun ht h => request_outOfRange (by simp only [ownReadOrders, h]) ht,
    fun ht h => request_outOfRange (by simp only [ownSearchOrder, h]) ht,
    fun ht h => request_outOfRange (by simp only [ownWritePlan, h]) ht,
    fun ht h => request_outOfRange (by simp only [ownReadPlan, h]) ht,
    fun ht h => request_outOfRange (by simp only [ownWriteProductSettings, h]) ht,
    fun ht h => request_outOfRange (by simp only [ownSetClock, h]) ht,
    fun ht h => request_outOfRange (by simp only [ownReadTicket, h]) ht,
    fun ht h => request_outOfRange (by simp only [ownAckTickets, h]) ht,
    fun ht h => request_outOfRange (by simp only [ownReadFaultLog, h]) ht,
    fun ht h => request_outOfRange (by simp only [ownArm, h]) ht,
    fun ht h => request_outOfRange (by simp only [ownArmTest, h]) ht,
    fun ht h => request_outOfRange (by simp only [ownAdd, h]) ht,
    fun ht h => request_outOfRange (by simp only [ownStart, h]) ht,
    fun ht h => request_outOfRange (by simp only [ownPause, h]) ht,
    fun ht h => request_outOfRange (by simp only [ownResume, h]) ht,
    fun ht h => request_outOfRange (by simp only [ownEndDelivery, h]) ht,
    fun ht h => request_outOfRange (by simp only [ownDisarm, h]) ht,
    fun ht h => request_outOfRange (by simp only [ownStopLine, h]) ht,
    fun ht h => request_outOfRange (by simp only [ownReadLine, h]) ht,
    fun ht h => request_outOfRange (by simp only [ownReadStatus, parseEmpty_none h]) ht,
    fun ht h => request_outOfRange (by simp only [ownReadTotals, parseEmpty_none h]) ht,
    fun ht h => request_outOfRange (by simp only [ownReadChecksum, parseEmpty_none h]) ht,
    fun ht h => request_outOfRange (by simp only [ownReadAudit, h]) ht,
    fun ht h => request_outOfRange (by simp only [ownReadRecord, h]) ht,
    fun ht hopen h => request_outOfRange ?_ ht, fun ht hopen h => request_outOfRange ?_ ht,
    parseLoadOrder_none_iff body, parseOrderId_none_iff body, parseSlot_none_iff body, parseSearch_none_iff body,
    parseWritePlan_none_iff body, parsePlanNo_none_iff body, parseSettings_none_iff body, parseNumber32_none_iff body,
    parseNumber32_none_iff body, parseNumberOrKeyword_none_iff body, parseNumberOrKeyword_none_iff body,
    parsePosition_none_iff body, parseArm_none_iff body, parseArmTest_none_iff body, parseAdd_none_iff body, ?_, ?_,
    parseRecordId_none_iff body, parseWriteRecord_none_iff body⟩
  · have hswitch : (asked s link .writeRecord body).inputs.inspectionOpen = true := hopen
    simp only [ownWriteRecord, hswitch, Bool.not_true, Bool.false_eq_true, if_false, h]
  · have hswitch : (asked s link .clearFaultLog body).inputs.inspectionOpen = true := hopen
    simp only [ownClearFaultLog, hswitch, Bool.not_true, Bool.false_eq_true, if_false, parseEmpty_none h]
  · rintro k (rfl | rfl | rfl | rfl | rfl | rfl | rfl) <;> exact parseLine_none_iff body
  · rintro k (rfl | rfl | rfl | rfl) <;> exact Iff.rfl

end Sys2Proof.Safety
end

section
/-! PROOF. The final correction, and a finished delivery with its ticket record. -/

namespace Sys2Proof.Safety

open Sys2Proof.Machine

/-! ## Rounding half away from zero (R31, R32) -/

/-- The rounded magnitude of a quotient, times its divisor: within half the divisor, an exact half going up. -/
theorem round_magnitude (m : Nat) {d : Nat} (hd : 0 < d) :
    let q := (2 * m + d) / (2 * d)
    2 * (q * d) ≤ 2 * m + d ∧ 2 * m + d < 2 * (q * d) + 2 * d := by
  intro q
  have hle : 2 * d * q ≤ 2 * m + d := Nat.mul_div_le _ _
  have hlt : 2 * m + d < 2 * d * (q + 1) := Nat.lt_mul_div_succ _ (by omega)
  have h1 : 2 * d * q = 2 * (q * d) := by ring
  have h2 : 2 * d * (q + 1) = 2 * (q * d) + 2 * d := by ring
  omega

theorem roundHalfAway_spec (n : Int) {d : Nat} (hd : 0 < d) :
    2 * (n - roundHalfAway n d * d).natAbs ≤ d ∧
      (2 * (n - roundHalfAway n d * d).natAbs = d → n.natAbs < (roundHalfAway n d * d).natAbs) ∧
      (0 ≤ n → 0 ≤ roundHalfAway n d) ∧ (n ≤ 0 → roundHalfAway n d ≤ 0) := by
  obtain ⟨hle, hlt⟩ := round_magnitude n.natAbs hd
  unfold roundHalfAway
  dsimp only
  generalize hq : (2 * n.natAbs + d) / (2 * d) = q at hle hlt
  have hcast : ((q * d : Nat) : Int) = (q : Int) * d := by push_cast; ring
  by_cases hn : n < 0
  · rw [if_pos hn]
    have hneg : -(q : Int) * d = -((q * d : Nat) : Int) := by push_cast; ring
    rw [hneg]
    generalize q * d = x at *
    omega
  · rw [if_neg hn, ← hcast]
    have hzero : n = 0 → q = 0 := by
      rintro rfl
      rw [← hq]
      simp only [Int.natAbs_zero, Nat.mul_zero, Nat.zero_add]
      exact Nat.div_eq_of_lt (by omega)
    generalize q * d = x at *
    omega

/-- The average temperature lies between bounds that the weighted temperatures keep (R31). -/
theorem roundHalfAway_bounds {n lo hi : Int} {d : Nat} (hd : 0 < d) (hlo : lo * d ≤ n) (hhi : n ≤ hi * d) :
    lo ≤ roundHalfAway n d ∧ roundHalfAway n d ≤ hi := by
  obtain ⟨hnear, -⟩ := roundHalfAway_spec n hd
  have hd' : (0 : Int) < d := Int.natCast_pos.mpr hd
  generalize roundHalfAway n d = q at *
  constructor
  · refine Int.lt_add_one_iff.mp (lt_of_mul_lt_mul_right ?_ hd'.le)
    rw [Int.add_mul, Int.one_mul]
    omega
  · refine Int.lt_add_one_iff.mp (lt_of_mul_lt_mul_right ?_ hd'.le)
    rw [Int.add_mul, Int.one_mul]
    omega

/-! ## The VCF (R32) -/

theorem vcfOf_eq (alpha : Nat) (t : Int) : (vcfOf alpha t : Int) =
    let v := 1000000 - roundHalfAway (alpha * (t - 1500)) 100
    if 1100000 < v then 1100000 else if v < 900000 then 900000 else v := by
  simp only [vcfOf]
  generalize 1000000 - roundHalfAway (alpha * (t - 1500)) 100 = v
  split
  · omega
  · split <;> omega

theorem vcfOf_range (alpha : Nat) (t : Int) : 900000 ≤ vcfOf alpha t ∧ vcfOf alpha t ≤ 1100000 := by
  have h := vcfOf_eq alpha t
  dsimp only at h
  split at h
  · omega
  · split at h <;> omega

/-- Settles O52: the rounding by its magnitude, the VCF by its clamp. -/
theorem averageAndVcfAreRounded : Obligations.AverageAndVcfAreRounded := by
  refine ⟨fun n d hd => roundHalfAway_spec n hd, fun d => ⟨fun hgs => ?_, fun hgs => ?_⟩, fun alpha t =>
    ⟨vcfOf_eq alpha t, vcfOf_range alpha t⟩⟩
  · have haverage : d.average = roundHalfAway d.corr.w d.counts.gs := if_neg (Nat.pos_iff_ne_zero.mp hgs)
    exact ⟨haverage, fun hlow hhigh => haverage ▸ roundHalfAway_bounds hgs hlow hhigh⟩
  · exact if_pos hgs

/-! ## Price parts within their fields (R119 to R123) -/

/-- The tier selected is one of the plan's, or of no tier all is 0. -/
theorem selectTier_range (q : Nat) (ts : List Tier) (h : ∀ t ∈ ts, t.price.toNat ≤ 99999 ∧ t.charge.toNat ≤ 999999) :
    (selectTier q ts 1).1 ≤ ts.length + 1 ∧ (selectTier q ts 1).2.price.toNat ≤ 99999 ∧
      (selectTier q ts 1).2.charge.toNat ≤ 999999 := by
  by_cases hts : ts = []
  · subst hts
    exact ⟨Nat.le_refl 1, Nat.zero_le _, Nat.zero_le _⟩
  · obtain ⟨i, t, ht, hselect, -⟩ := selectTier_spec q ts hts 1
    obtain ⟨hi, rfl⟩ := List.getElem?_eq_some_iff.mp ht
    rw [hselect]
    exact ⟨by omega, h _ (List.getElem_mem hi)⟩

theorem priceOf_range {p : PlanCopy} {r q : Nat} (hq : q ≤ 9999999) (hr : r ≤ 5000)
    (h : ∀ t ∈ p.tiers, t.price.toNat ≤ 99999 ∧ t.charge.toNat ≤ 999999) :
    let x := priceOf p r q
    x.price ≤ 99999 ∧ x.charge ≤ 999999 ∧ x.subtotal ≤ 100998989 ∧ x.tax ≤ 50499495 ∧ x.total ≤ 151498484 := by
  intro x
  obtain ⟨-, hprice, hcharge⟩ := selectTier_range q p.tiers h
  have hsubtotal : x.subtotal ≤ 100998989 := Nat.add_le_add (amount_le hq hprice) hcharge
  have htax : x.tax ≤ 50499495 := tax_le hsubtotal hr
  exact ⟨hprice, hcharge, hsubtotal, htax, Nat.add_le_add hsubtotal htax⟩

/-- The parts of a price part that is there (R123, R197). -/
def priceParts (x : PricePart) : List (List Byte) :=
  [beBytes 1 x.plan.val, beBytes 1 x.tier, beBytes 3 x.price, beBytes 3 x.charge, beBytes 4 x.subtotal, beBytes 2 x.taxRate,
   beBytes 4 x.tax, beBytes 4 x.total]

theorem priceBytes_parts (x : PricePart) : priceBytes (some x) = (priceParts x).flatten := by simp [priceBytes, priceParts]

theorem priceParts_widths (x : PricePart) : (priceParts x).map List.length = [1, 1, 3, 3, 4, 2, 4, 4] := by simp [priceParts]

theorem field_priceBytes (x : PricePart) (k : Nat) {off n : Nat} (ho : (List.take k [1, 1, 3, 3, 4, 2, 4, 4]).sum = off)
    (hn : [1, 1, 3, 3, 4, 2, 4, 4][k]? = some n) : field (priceBytes (some x)) off n = beNat ((priceParts x).getD k []) := by
  rw [priceBytes_parts, field_flatten k (priceParts_widths x) ho hn]

/-! ## A ticket record (R133, R197) -/

section
variable (l : LineId) (d : Delivery) (f : Final) (price : Option PricePart)

theorem sealTicket_length {bs : List Byte} (h : bs.length = 134) : (sealTicket bs).length = 138 := by
  simp [sealTicket, checkBytes, h]

/-- A record closed by its check code agrees with it. -/
theorem ticketGood_sealTicket {bs : List Byte} (h : bs.length = 134) : ticketGood (sealTicket bs) = true := by
  rw [ticketGood, sealTicket, List.drop_left' h, List.take_left' h]
  exact beq_self_eq_true _

/-- A number field of a ticket. -/
theorem field_ticket (k : Nat) {off n : Nat} (ho : (ticketWidths.take k).sum = off) (hn : ticketWidths[k]? = some n)
    (h : off + n ≤ 134) : field (sealTicket (ticketBytes l d f price)) off n = beNat ((ticketParts l d f price).getD k []) := by
  rw [field, sealTicket_part l d f price k off n ho hn h]

/-- A one-byte field of a ticket. -/
theorem byte_ticket (k : Nat) {off : Nat} {b : Byte} (ho : (ticketWidths.take k).sum = off) (hn : ticketWidths[k]? = some 1)
    (h : off + 1 ≤ 134) (hb : (ticketParts l d f price).getD k [] = [b]) :
    (sealTicket (ticketBytes l d f price))[off]? = some b := by
  have hpart := sealTicket_part l d f price k off 1 ho hn h
  rw [hb] at hpart
  have hhead := congrArg (·[0]?) hpart
  simpa [List.getElem?_take, List.getElem?_drop] using hhead

/-- A field within the price part of a ticket. -/
theorem field_ticket_price {off n : Nat} (h : off + n ≤ 22) :
    field (sealTicket (ticketBytes l d f price)) (112 + off) n = field (priceBytes price) off n := by
  rw [← field_drop, ← field_take (m := 22) h, sealTicket_part l d f price 22 112 22 rfl rfl (by decide)]
  rfl

end

/-- A temperature reads back from its two bytes (R195). -/
theorem signed_part {t : Int} (hlow : -32768 ≤ t) (hhigh : t ≤ 32767) : (BitVec.ofNat 16 (beNat (signedBytes 2 t))).toInt = t := by
  rw [signedBytes, beNat_beBytes, BitVec.toInt_eq_toNat_cond, BitVec.toNat_ofNat]
  norm_num
  split <;> omega

/-! ## A delivery finished (R35 to R38) -/

/-- What a SALE bills, not limited (R37). -/
def billedOf (d : Delivery) : Nat :=
  match d.latched.product.basis with
  | .gross => d.counts.g / 1000
  | .net => d.counts.g * vcfOf d.latched.product.alpha.toNat d.average / 1000000000

/-- The final correction of a delivery with a billed quantity (R35 to R37). -/
def finalOf (d : Delivery) (q : Option Nat) : Final :=
  ⟨if d.corr.lastValid = none then none else some d.average, vcfOf d.latched.product.alpha.toNat d.average, d.counts.g / 1000,
    d.counts.g * vcfOf d.latched.product.alpha.toNat d.average / 1000000000, q⟩

theorem finalCorrection_eq (d : Delivery) : d.finalCorrection = finalOf d none := by
  unfold Delivery.finalCorrection finalOf
  cases d.corr.lastValid <;> rfl

/-- The delivery record of a SALE with its volumes and its CAPACITY flag, from which the ticket is made (R37, R70). -/
def billedDelivery (d : Delivery) : Delivery :=
  { d with
    final := some (finalOf d (some (min 9999999 (billedOf d))))
    flags := { d.flags with capacity := d.flags.capacity || decide (9999999 < billedOf d) } }

/-- The ticket of a SALE (R70). -/
def ticketOf (l : LineId) (d : Delivery) : List Byte :=
  sealTicket (ticketBytes l (billedDelivery d) (finalOf d (some (min 9999999 (billedOf d))))
    (d.price (min 9999999 (billedOf d))))

theorem finishSale_eq (l : LineId) (d : Delivery) :
    Delivery.finishSale l d = { billedDelivery d with ticket := some (ticketOf l d) } := by
  have hbilled : d.unlimitedBilled d.finalCorrection = billedOf d := by
    unfold Delivery.unlimitedBilled billedOf
    rw [finalCorrection_eq]
    cases d.latched.product.basis <;> rfl
  simp only [Delivery.finishSale, hbilled]
  rw [finalCorrection_eq]
  rfl

theorem finishTest_eq (l : LineId) (interrupted : Bool) (d : Delivery) : Delivery.finishTest l interrupted d =
    { d with
      final := some (finalOf d none)
      testRun := some ⟨l, d.product, d.counts.g, d.counts.g / 1000,
        d.counts.g * vcfOf d.latched.product.alpha.toNat d.average / 1000000000,
        if d.corr.lastValid = none then none else some d.average, vcfOf d.latched.product.alpha.toNat d.average,
        d.openTot, d.closeTot, interrupted, d.endTime⟩ } := by
  rw [Delivery.finishTest, finalCorrection_eq]
  rfl

theorem presence_value (d : Delivery) (f : Final) (price : Option PricePart) : (ticketPresence d f price).toNat =
    (if d.armTime = none then 0 else 1) + (if d.endTime = none then 0 else 2) + (if f.average = none then 0 else 4)
      + (if price = none then 0 else 8) := by
  unfold ticketPresence
  cases d.armTime <;> cases d.endTime <;> cases f.average <;> cases price <;> simp

/-- INTERRUPTED added to a ticket (R179): bit 5 of offset 103, and a new check code. -/
theorem interruptTicket_spec {record : List Byte} (h : record.length = 138) :
    ticketGood (interruptTicket record) = true ∧ (interruptTicket record).length = 138 ∧
      ∀ i, i < 134 → (interruptTicket record)[i]? = if i = 103 then record[i]?.map (· ||| 0x20) else record[i]? := by
  have hlen : ((record.take 134).modify 103 (· ||| 0x20)).length = 134 := by simp [h]
  refine ⟨ticketGood_sealTicket hlen, sealTicket_length hlen, fun i hi => ?_⟩
  rw [interruptTicket, sealTicket, List.getElem?_append_left (by omega), List.getElem?_modify, List.getElem?_take_of_lt hi]
  by_cases h103 : i = 103
  · simp [h103]
  · simp [h103, Ne.symm h103]

section
variable {l : LineId} {d : Delivery} {o : OrderCopy}

/-- A number field of a SALE's ticket. -/
theorem field_ticketOf (l : LineId) (d : Delivery) (k : Nat) {off n v : Nat} (ho : (ticketWidths.take k).sum = off)
    (hn : ticketWidths[k]? = some n) (h : off + n ≤ 134)
    (hpart : (ticketParts l (billedDelivery d) (finalOf d (some (min 9999999 (billedOf d)))) (d.price (min 9999999 (billedOf d)))).getD k []
      = beBytes n v) (hv : v < 256 ^ n) : field (ticketOf l d) off n = v := by
  rw [ticketOf, field_ticket _ _ _ _ k ho hn h, hpart, beNat_number n hv]

/-- A field of the price part of a SALE's ticket. -/
theorem ticketOf_pricePart {x : PricePart} (hprice : d.price (min 9999999 (billedOf d)) = some x) (k : Nat) {off n v : Nat}
    (h : off + n ≤ 22) (ho : (List.take k [1, 1, 3, 3, 4, 2, 4, 4]).sum = off) (hn : [1, 1, 3, 3, 4, 2, 4, 4][k]? = some n)
    (hv : (priceParts x).getD k [] = beBytes n v) (hlt : v < 256 ^ n) : field (ticketOf l d) (112 + off) n = v :=
  calc field (ticketOf l d) (112 + off) n
    _ = field (priceBytes (d.price (min 9999999 (billedOf d)))) off n := field_ticket_price _ _ _ _ h
    _ = field (priceBytes (some x)) off n := congrArg (fun part => field (priceBytes part) off n) hprice
    _ = beNat (beBytes n v) := (field_priceBytes x k ho hn).trans (congrArg beNat hv)
    _ = v := beNat_number n hlt

/-- The fields of the price part of a SALE's ticket, within their widths. -/
theorem ticketOf_priceFields {x : PricePart} (hprice : d.price (min 9999999 (billedOf d)) = some x) (htier : x.tier ≤ 9)
    (htaxRate : x.taxRate ≤ 5000) (hunit : x.price ≤ 99999) (hcharge : x.charge ≤ 999999) (hsubtotal : x.subtotal ≤ 100998989)
    (htax : x.tax ≤ 50499495) (htotal : x.total ≤ 151498484) :
    field (ticketOf l d) 112 1 = x.plan.val ∧ field (ticketOf l d) 113 1 = x.tier ∧ field (ticketOf l d) 114 3 = x.price ∧
      field (ticketOf l d) 117 3 = x.charge ∧ field (ticketOf l d) 120 4 = x.subtotal ∧
      field (ticketOf l d) 124 2 = x.taxRate ∧ field (ticketOf l d) 126 4 = x.tax ∧ field (ticketOf l d) 130 4 = x.total :=
  have hpart := fun (k : Nat) {off n v : Nat} => ticketOf_pricePart (l := l) hprice k (off := off) (n := n) (v := v)
  ⟨hpart 0 (off := 0) (by decide) rfl rfl rfl (x.plan.isLt.trans (by decide)),
    hpart 1 (off := 1) (by decide) rfl rfl rfl (htier.trans_lt (by decide)),
    hpart 2 (off := 2) (by decide) rfl rfl rfl (hunit.trans_lt (by decide)),
    hpart 3 (off := 5) (by decide) rfl rfl rfl (hcharge.trans_lt (by decide)),
    hpart 4 (off := 8) (by decide) rfl rfl rfl (hsubtotal.trans_lt (by decide)),
    hpart 5 (off := 12) (by decide) rfl rfl rfl (htaxRate.trans_lt (by decide)),
    hpart 6 (off := 14) (by decide) rfl rfl rfl (htax.trans_lt (by decide)),
    hpart 7 (off := 18) (by decide) rfl rfl rfl (htotal.trans_lt (by decide))⟩

/-- The price part of a SALE's ticket is that of its plan copy (R123, R124). -/
theorem ticketOf_price {p : PlanCopy} (horder : d.latched.order = some o) (hplan : d.latched.plan = some p)
    (hlen : p.tiers.length ≤ 8) (htax : o.taxRate.toNat ≤ 5000)
    (htiers : ∀ t ∈ p.tiers, t.price.toNat ≤ 99999 ∧ t.charge.toNat ≤ 999999) :
    let x := priceOf p o.taxRate.toNat (min 9999999 (billedOf d))
    field (ticketOf l d) 112 1 = p.number.val ∧ field (ticketOf l d) 113 1 = x.tier ∧ field (ticketOf l d) 114 3 = x.price ∧
      field (ticketOf l d) 117 3 = x.charge ∧ field (ticketOf l d) 120 4 = x.subtotal ∧
      field (ticketOf l d) 124 2 = o.taxRate.toNat ∧ field (ticketOf l d) 126 4 = x.tax ∧ field (ticketOf l d) 130 4 = x.total := by
  intro x
  have hprice : d.price (min 9999999 (billedOf d)) = some x := by
    rw [Delivery.price, hplan, horder]
    rfl
  have htier : x.tier ≤ p.tiers.length + 1 := (selectTier_range _ _ htiers).1
  obtain ⟨hunit, hcharge, hsubtotal, htaxed, htotal⟩ := priceOf_range (min_le_left _ (billedOf d)) htax htiers
  exact ticketOf_priceFields hprice (htier.trans (Nat.succ_le_succ hlen)) htax hunit hcharge hsubtotal htaxed htotal

/-- With no plan the price part is absent, and sent as 0 (R124). -/
theorem ticketOf_noPrice (hplan : d.latched.plan = none) :
    field (ticketOf l d) 112 8 = 0 ∧ field (ticketOf l d) 120 8 = 0 ∧ field (ticketOf l d) 128 6 = 0 := by
  have hprice : d.price (min 9999999 (billedOf d)) = none := by rw [Delivery.price, hplan, Option.map_none]
  have hpart : ∀ {off n : Nat}, off + n ≤ 22 → field (ticketOf l d) (112 + off) n = field (List.replicate 22 0) off n := by
    intro off n h
    rw [ticketOf, field_ticket_price _ _ _ _ h, hprice]
    rfl
  exact ⟨hpart (off := 0) (by decide), hpart (off := 8) (by decide), hpart (off := 16) (by decide)⟩

/-- The volumes stay within their fields (R6, R36). -/
theorem grossVolume_lt (hg : d.counts.g < 10 ^ 17) : d.counts.g / 1000 < 256 ^ 6 := by
  omega

theorem net_lt (hg : d.counts.g < 10 ^ 17) (alpha : Nat) (t : Int) : d.counts.g * vcfOf alpha t / 1000000000 < 256 ^ 6 := by
  have hv := (vcfOf_range alpha t).2
  have hmul : d.counts.g * vcfOf alpha t ≤ 10 ^ 17 * 1100000 := Nat.mul_le_mul hg.le hv
  omega

end

/-- Settles O53: each field is a part of the ticket at its offset. -/
theorem deliveryIsFinished : Obligations.DeliveryIsFinished := by
  intro l d v gross net average billed q
  refine ⟨⟨ticketOf l d, finishSale_eq l d, sealTicket_length (ticketBytes_length _ _ _ _),
    ticketGood_sealTicket (ticketBytes_length _ _ _ _), fun o ho hg hopen hclose => ?_⟩,
    fun interrupted => finishTest_eq l interrupted d, fun record h => interruptTicket_spec h⟩
  have horder : (billedDelivery d).latched.order.getD blankOrder = o := by
    change d.latched.order.getD blankOrder = o
    rw [ho, Option.getD_some]
  have hcopy : ((ticketOf l d).drop 6).take 26 = loadBody o := by
    rw [loadBody_eq, ← horder]
    exact sealTicket_part _ _ _ _ 3 6 26 rfl rfl (by decide)
  refine ⟨fun n hn hlt => ?_, ?_, ?_, hcopy, ?_, ?_, fun h => ?_, fun h => ?_, fun h => ?_, fun hlow hhigh => ?_, ?_, ?_, ?_, ?_,
    fun h => ?_, ?_, ?_, ?_, ?_, ?_, ?_, ?_, ?_, ticketOf_noPrice, fun p hplan hlen htax htiers =>
      ticketOf_price ho hplan hlen htax htiers⟩
  · refine field_ticketOf l d 0 rfl rfl (by decide) ?_ hlt
    exact congrArg (beBytes 4) (by rw [billedDelivery, hn, Option.getD_some])
  · exact field_ticketOf l d 1 rfl rfl (by decide) rfl ((lineNo_lt l).trans (by decide))
  · refine (field_ticket _ _ _ _ 2 rfl rfl (by decide)).trans ((beNat_byte _).trans ((presence_value _ _ _).trans ?_))
    have hprice : d.price (min 9999999 (billedOf d)) = none ↔ d.latched.plan = none := by
      rw [Delivery.price, Option.map_eq_none_iff]
    simp only [hprice]
    rfl
  · rw [show 30 = 6 + 24 from rfl, ← field_drop, ← field_take (m := 26) (by decide), hcopy, loadBody_eq]
    exact (field_orderBytes o 7 rfl rfl).trans (beNat_word 2 _ (by decide))
  · exact sealTicket_part _ _ _ _ 4 32 12 rfl rfl (by decide)
  · exact field_ticketOf l d 5 rfl rfl (by decide) rfl h
  · exact field_ticketOf l d 6 rfl rfl (by decide) rfl h
  · exact field_ticketOf l d 7 rfl rfl (by decide) rfl h
  · have hpart : field (ticketOf l d) 90 2 = beNat (signedBytes 2 (average.getD 0)) := field_ticket _ _ _ _ 13 rfl rfl (by decide)
    clear_value average
    rw [signedField, hpart]
    exact signed_part (by omega) (by omega)
  · rw [basisByte_eq]
    exact byte_ticket _ _ _ _ 15 rfl rfl (by decide) rfl
  · rw [endByte_eq]
    exact byte_ticket _ _ _ _ 17 rfl rfl (by decide) rfl
  · rw [haltByte_eq]
    exact byte_ticket _ _ _ _ 18 rfl rfl (by decide) rfl
  · rw [flagBits_eq]
    exact byte_ticket _ _ _ _ 19 rfl rfl (by decide) rfl
  · exact field_ticketOf l d 20 rfl rfl (by decide) rfl h
  · exact field_ticketOf l d 21 rfl rfl (by decide) rfl d.identity.checksum.isLt
  · exact field_ticketOf l d 8 rfl rfl (by decide) rfl (hopen.trans (by decide))
  · exact field_ticketOf l d 9 rfl rfl (by decide) rfl (hclose.trans (by decide))
  · exact field_ticketOf l d 10 rfl rfl (by decide) rfl (hg.trans (by decide))
  · exact field_ticketOf l d 11 rfl rfl (by decide) rfl (grossVolume_lt hg)
  · exact field_ticketOf l d 12 rfl rfl (by decide) rfl (net_lt hg _ _)
  · exact field_ticketOf l d 14 rfl rfl (by decide) rfl ((vcfOf_range _ _).2.trans_lt (by decide))
  · exact field_ticketOf l d 16 rfl rfl (by decide) rfl ((min_le_left _ _).trans_lt (by decide))

end Sys2Proof.Safety
end

section
/-! PROOF. The write engine and the fault log (R138, R202): O27 and O42. -/

namespace Sys2Proof.Safety

open Sys2Proof.Machine

/-! ## The engine takes its units (R138, R139) -/

/-- What goes in flight with a unit (R140, R148, R202). -/
theorem goInFlight_eq (s : State) (u : WriteUnit) : s.goInFlight u = { s with
    engine := ⟨.writing, some ⟨u, s.journal.header, s.journal.marks, s.faultLog.ring.map RingEntry.entry⟩, s.engine.queue⟩
    cal := { s.cal with pendingWrite := match u with
      | .calibration .. => s.cal.pendingWrite.map (fun x => (x.1, .inFlight))
      | .journalAppend .. | .testRecord .. | .restartUpdate .. | .faultLog => s.cal.pendingWrite }
    faultLog := if u = .faultLog then { s.faultLog with
        ring := s.faultLog.ring.map (fun x => { x with carried := true })
        outstanding := some .inFlight }
      else s.faultLog } := by
  cases u with
  | calibration c check checksum counter e =>
    cases h : s.cal.pendingWrite <;> simp only [State.goInFlight, h, Option.map_none, Option.map_some, reduceCtorEq, if_false]
    rw [← h]
  | faultLog => rfl
  | journalAppend l r n m t => rfl
  | testRecord l r t => rfl
  | restartUpdate n m => rfl

theorem hand_full {s : State} (h : s.engine.state = .writing) (hfull : 4 ≤ s.engine.queue.length) (u : WriteUnit) :
    s.hand u = s := by
  rw [State.hand, h]
  exact if_neg (by omega)

theorem hand_ended {s : State} (h : s.engine.state = .saving ∨ s.engine.state = .stopped) (u : WriteUnit) : s.hand u = s := by
  rw [State.hand]
  rcases h with h | h <;> rw [h]

theorem engineNext_ended {s : State} (h : s.engine.state = .saving ∨ s.engine.state = .stopped) :
    s.engineNext = { s with engine := { s.engine with inFlight := none } } := by
  rw [State.engineNext]
  rcases h with h | h <;> rw [h]

theorem engineNext_empty {s : State} (h : s.engine.state = .writing) (hq : s.engine.queue = []) :
    s.engineNext = { s with engine := ⟨.idle, none, []⟩ } := by
  simp only [State.engineNext, h, hq]

theorem engineNext_queued {s : State} {v : WriteUnit} {q : List WriteUnit} (h : s.engine.state = .writing)
    (hq : s.engine.queue = v :: q) : s.engineNext = ({ s with engine := { s.engine with queue := q } } : State).goInFlight v := by
  simp only [State.engineNext, h, hq]

/-- Settles O42: the engine by its state. -/
theorem engineTakesUnitsInOrder : Obligations.EngineTakesUnitsInOrder := by
  intro s u goes
  exact ⟨fun h => (hand_idle h u).trans (goInFlight_eq s u), fun h hroom _ => hand_writing h hroom u,
    fun h hfull => hand_full h hfull u, fun h => ⟨hand_ended h u, engineNext_ended h⟩, engineNext_empty,
    fun v q h hq => (engineNext_queued h hq).trans (goInFlight_eq _ v)⟩

/-! ## The fault log takes an entry (R200, R202) -/

theorem takesFaultLog_iff (x : Engine) : x.takesFaultLog = true ↔
    x.state = .idle ∨ x.state = .writing ∧ x.queue.length < 4 ∧ WriteUnit.faultLog ∉ x.queue := by
  have hkind : ∀ u : WriteUnit, u.isFaultLog = true ↔ WriteUnit.faultLog = u := by
    intro u
    cases u <;> simp [WriteUnit.isFaultLog]
  have hany : x.queue.any WriteUnit.isFaultLog = false ↔ WriteUnit.faultLog ∉ x.queue := by
    simp only [← Bool.not_eq_true, List.any_eq_true, hkind, exists_eq_right']
  cases hs : x.state <;> simp [Engine.takesFaultLog, hs, hany]

/-- An entry as it joins the ring: unstored, and carried by no unit (R200). -/
def unstored (e : FaultEntry) : RingEntry := ⟨e, false, false⟩

theorem joinRing_eq (ring : List RingEntry) (e : FaultEntry) : joinRing ring e =
    if (ring ++ [unstored e]).length ≤ 32 then ring ++ [unstored e] else (ring ++ [unstored e]).drop 1 := by
  by_cases h : (ring ++ [unstored e]).length ≤ 32
  · rw [if_pos h]
    exact if_neg (Nat.not_lt.mpr h)
  · rw [if_neg h]
    exact if_pos (Nat.lt_of_not_le h)

/-- The newest 32 of a ring and the entries that join it (R200). -/
theorem joinRing_foldl (es : List FaultEntry) (ring : List RingEntry) (h : ring.length ≤ 32) : es.foldl joinRing ring =
    (ring ++ es.map unstored).drop ((ring ++ es.map unstored).length - 32) := by
  induction es generalizing ring with
  | nil => simp [Nat.sub_eq_zero_of_le h]
  | cons e es ih =>
    rw [List.foldl_cons, ih _ ((joinRing_length ring e).trans (by omega)), joinRing_eq, List.map_cons]
    split
    · simp
    · rename_i hfull
      have hlen : ring.length = 32 := by
        rw [List.length_append, List.length_singleton] at hfull
        omega
      have hone : 1 ≤ (ring ++ [unstored e]).length := by simp
      rw [← List.drop_append_of_le_length hone, List.append_assoc, List.singleton_append, List.drop_drop, List.length_drop]
      congr 1
      simp [hlen]
      omega

theorem handFaultLog_idle {s : State} (h : s.engine.state = .idle) : s.handFaultLog = { s with
    faultLog := { s.faultLog with ring := s.faultLog.ring.map (fun x => { x with carried := true }), outstanding := some .inFlight }
    engine := { s.engine with
      state := .writing
      inFlight := some ⟨.faultLog, s.journal.header, s.journal.marks, s.faultLog.ring.map RingEntry.entry⟩ } } :=
  hand_idle (s := { s with faultLog := { s.faultLog with outstanding := some .queued } }) h .faultLog

theorem handFaultLog_writing {s : State} (h : s.engine.state = .writing) (hroom : s.engine.queue.length < 4) :
    s.handFaultLog = { s with
      faultLog := { s.faultLog with outstanding := some .queued }
      engine := { s.engine with queue := s.engine.queue ++ [.faultLog] } } :=
  hand_writing (s := { s with faultLog := { s.faultLog with outstanding := some .queued } }) h hroom .faultLog

/-- The log writes its entry through the engine (R202 step 2). -/
theorem logFault_taken {s : State} (e : FaultEntry) (hover : s.faultLog.overflow = []) (hout : s.faultLog.outstanding = none)
    (htakes : s.engine.takesFaultLog = true) :
    s.logFault e = State.handFaultLog { s with faultLog := { s.faultLog with ring := joinRing s.faultLog.ring e } } := by
  rw [State.logFault]
  exact if_pos (by simp [hover, hout, htakes])

/-- The log keeps its entry back, or loses it (R202 steps 3 and 4). -/
theorem logFault_kept {s : State} (e : FaultEntry)
    (h : s.faultLog.overflow ≠ [] ∨ s.faultLog.outstanding ≠ none ∨ ¬ s.engine.takesFaultLog = true) :
    s.logFault e = if s.faultLog.overflow.length < 4
      then { s with faultLog := { s.faultLog with overflow := s.faultLog.overflow ++ [e], wanted := true } }
      else { s with faultLog := { s.faultLog with lost := min 255 (s.faultLog.lost + 1) } } := by
  rw [State.logFault, ← bump_eq]
  refine if_neg ?_
  simp only [Bool.and_eq_true, List.isEmpty_iff, Option.isNone_iff_eq_none]
  tauto

theorem placeFree_taken {s : State} (hwanted : s.faultLog.wanted = true) (hout : s.faultLog.outstanding = none)
    (htakes : s.engine.takesFaultLog = true) : s.placeFree = State.handFaultLog { s with faultLog := { s.faultLog with
      ring := s.faultLog.overflow.foldl joinRing s.faultLog.ring, overflow := [], wanted := false } } := by
  rw [State.placeFree, if_pos (by simp [hwanted, hout])]
  exact if_pos htakes

theorem placeFree_untaken {s : State} (h : s.faultLog.wanted = false ∨ s.faultLog.outstanding ≠ none ∨
    ¬ s.engine.takesFaultLog = true) : s.placeFree = s := by
  unfold State.placeFree
  split
  · rename_i hoffer
    simp only [Bool.and_eq_true, Option.isNone_iff_eq_none] at hoffer
    exact if_neg (by simp_all)
  · rfl

/-- Settles O27: the log by its overflow, its outstanding write and the engine. -/
theorem faultLogTakesEntries : Obligations.FaultLogTakesEntries := by
  intro s e f joined carried ring takes
  have htakes : s.engine.takesFaultLog = true ↔ takes := takesFaultLog_iff s.engine
  have hring : joinRing f.ring e = ring := joinRing_eq f.ring e
  refine ⟨fun hover hout hidle => ?_, fun hover hout hwriting h => ?_, fun h => ?_, fun hlen hwanted hout => ?_, fun h => ?_⟩
  · rw [logFault_taken e hover hout (htakes.mpr (.inl hidle)), hring]
    exact handFaultLog_idle hidle
  · rw [logFault_taken e hover hout (htakes.mpr h), hring]
    have hroom : s.engine.queue.length < 4 := h.elim (fun hidle => absurd (hwriting.symm.trans hidle) nofun) (·.2.1)
    exact handFaultLog_writing hwriting hroom
  · rw [logFault_kept e (by rwa [htakes])]
    exact ⟨fun hroom => if_pos hroom, fun hfull => if_neg (Nat.not_lt.mpr hfull)⟩
  · intro all newest
    have hnewest : f.overflow.foldl joinRing f.ring = newest := joinRing_foldl f.overflow f.ring hlen
    refine ⟨fun hidle => ?_, fun hwriting h => ?_⟩
    · rw [placeFree_taken hwanted hout (htakes.mpr (.inl hidle)), hnewest]
      exact handFaultLog_idle hidle
    · rw [placeFree_taken hwanted hout (htakes.mpr h), hnewest]
      have hroom : s.engine.queue.length < 4 := h.elim (fun hidle => absurd (hwriting.symm.trans hidle) nofun) (·.2.1)
      exact handFaultLog_writing hwriting hroom
  · exact placeFree_untaken (by rwa [htakes])

end Sys2Proof.Safety
end

section
/-! PROOF. The load of the calibration records and the sweep (R162 to R166): O40 and O41. -/

namespace Sys2Proof.Safety

open Sys2Proof.Machine

/-! ## Entries logged one after the other (R202) -/

/-- A fault-log write handed over changes the log and the engine alone. -/
theorem handFaultLog_form (s : State) :
    s.handFaultLog = { s with faultLog := s.handFaultLog.faultLog, engine := s.handFaultLog.engine } := by
  simp only [State.handFaultLog, State.hand]
  cases s.engine.state
  case writing => dsimp only; split <;> rfl
  all_goals rfl

/-- What it makes of them depends on the journal, the engine and the log alone. -/
theorem handFaultLog_congr {s t : State} (hj : s.journal = t.journal) (he : s.engine = t.engine) (hf : s.faultLog = t.faultLog) :
    s.handFaultLog.faultLog = t.handFaultLog.faultLog ∧ s.handFaultLog.engine = t.handFaultLog.engine := by
  simp only [State.handFaultLog, State.hand, State.goInFlight, hj, he, hf]
  cases t.engine.state
  case writing => dsimp only; split <;> exact ⟨rfl, rfl⟩
  all_goals exact ⟨rfl, rfl⟩

theorem logFault_form (s : State) (e : FaultEntry) :
    s.logFault e = { s with faultLog := (s.logFault e).faultLog, engine := (s.logFault e).engine } := by
  simp only [State.logFault]
  split
  · exact handFaultLog_form { s with faultLog := { s.faultLog with ring := joinRing s.faultLog.ring e } }
  · split <;> rfl

theorem logFault_congr {s t : State} (hj : s.journal = t.journal) (he : s.engine = t.engine) (hf : s.faultLog = t.faultLog)
    (e : FaultEntry) : (s.logFault e).faultLog = (t.logFault e).faultLog ∧ (s.logFault e).engine = (t.logFault e).engine := by
  simp only [State.logFault, he, hf]
  split
  · exact handFaultLog_congr hj rfl rfl
  · split <;> exact ⟨rfl, rfl⟩

/-- Entries logged change the log and the engine alone. -/
theorem logged_form (es : List FaultEntry) (s : State) : es.foldl State.logFault s =
    { s with faultLog := (es.foldl State.logFault s).faultLog, engine := (es.foldl State.logFault s).engine } := by
  induction es generalizing s with
  | nil => rfl
  | cons e es ih =>
    have h := ih (s.logFault e)
    rw [List.foldl_cons, h]
    generalize es.foldl State.logFault (s.logFault e) = t
    rw [logFault_form s e]

theorem logged_congr (es : List FaultEntry) {s t : State} (hj : s.journal = t.journal) (he : s.engine = t.engine)
    (hf : s.faultLog = t.faultLog) : (es.foldl State.logFault s).faultLog = (es.foldl State.logFault t).faultLog ∧
      (es.foldl State.logFault s).engine = (es.foldl State.logFault t).engine := by
  induction es generalizing s t with
  | nil => exact ⟨hf, he⟩
  | cons e es ih =>
    obtain ⟨hf', he'⟩ := logFault_congr hj he hf e
    exact ih (by rw [State.logFault_journal, State.logFault_journal, hj]) he' hf'

/-- Entries logged beside a change of the calibration. -/
theorem logged_cal (es : List FaultEntry) (s : State) (x : Calibration) :
    es.foldl State.logFault { s with cal := x } = { es.foldl State.logFault s with cal := x } := by
  obtain ⟨hf, he⟩ := logged_congr es (s := { s with cal := x }) (t := s) rfl rfl rfl
  rw [logged_form, hf, he, logged_form es s]

theorem logged_store (es : List FaultEntry) (s : State) : (es.foldl State.logFault s).store = s.store := by rw [logged_form]

theorem logged_stamp (es : List FaultEntry) (s : State) : (es.foldl State.logFault s).stamp = s.stamp := by rw [logged_form]; rfl

theorem logged_calibration (es : List FaultEntry) (s : State) : (es.foldl State.logFault s).cal = s.cal := by rw [logged_form]

/-! ## A set of records (R147) -/

theorem mem_allRecords (r : RecordId) : r ∈ allRecords := by
  rcases r with l | ⟨l, p⟩ | p
  · cases l <;> decide
  · cases l <;> cases p <;> decide
  · cases p <;> decide

theorem PerProduct.get_set {α : Type} (x : PerProduct α) (p q : Product) (v : α) :
    (x.set p v).get q = if q = p then v else x.get q := by
  cases p <;> cases q <;> rfl

theorem records_get_put (x : RecordSet) (v : Bool) (c : CalRecord) (r : RecordId) :
    (x.put v c).get r = if r = c.id then (v, c) else x.get r := by
  cases c with
  | line l c =>
    cases r with
    | line m =>
      simp only [RecordSet.get, RecordSet.put, CalRecord.id, PerLine.get_set, RecordId.line.injEq]
      by_cases h : m = l <;> simp [h]
    | meter m q => rfl
    | product q => rfl
  | meter l p c =>
    cases r with
    | line m => rfl
    | meter m q =>
      simp only [RecordSet.get, RecordSet.put, CalRecord.id, PerLine.get_set, RecordId.meter.injEq]
      by_cases h : m = l <;> by_cases hp : q = p <;> simp [h, hp, PerProduct.get_set]
    | product q => rfl
  | product p c =>
    cases r with
    | line m => rfl
    | meter m q => rfl
    | product q =>
      simp only [RecordSet.get, RecordSet.put, CalRecord.id, PerProduct.get_set, RecordId.product.injEq]
      by_cases h : q = p <;> simp [h]

theorem checks_get_put (x : RecordChecks) (v : Check) (q r : RecordId) :
    (x.put v q).get r = if r = q then v else x.get r := by
  cases q with
  | line l => cases r <;> simp [RecordChecks.get, RecordChecks.put, PerLine.get_set]
  | meter l p =>
    cases r with
    | line m => rfl
    | meter m k =>
      simp only [RecordChecks.get, RecordChecks.put, PerLine.get_set, RecordId.meter.injEq]
      by_cases h : m = l <;> by_cases hp : k = p <;> simp [h, hp, PerProduct.get_set]
    | product k => rfl
  | product p => cases r <;> simp [RecordChecks.get, RecordChecks.put, PerProduct.get_set]

/-! ## The load (R162, R163) -/

theorem records_get_id (x : RecordSet) (r : RecordId) : (x.get r).2.id = r := by
  cases r <;> rfl

theorem blankRecord_id (r : RecordId) : (blankRecord r).id = r := by
  cases r <;> rfl

/-- The shadow a load gives (R163). -/
theorem loaded_eq (st : Store) (r : RecordId) : st.loaded r =
    if st.recordDamage r ≤ 1 ∧ (st.sealed.get r).1 = true then st.sealed.get r else (false, blankRecord r) := by
  unfold Store.loaded Store.loadOutcome
  match st.recordDamage r with
  | 0 => simp
  | 1 => simp
  | n + 2 => simp

theorem loaded_id (st : Store) (r : RecordId) : (st.loaded r).2.id = r := by
  rw [loaded_eq]
  split
  · exact records_get_id _ r
  · exact blankRecord_id r

/-- The shadows with the records of a list loaded. -/
def shadowsLoaded (st : Store) (rs : List RecordId) (x : RecordSet) : RecordSet :=
  rs.foldl (fun x r => x.put (st.loaded r).1 (st.loaded r).2) x

/-- The reference checks with the records of a list loaded. -/
def refsLoaded (st : Store) (rs : List RecordId) (x : RecordChecks) : RecordChecks :=
  rs.foldl (fun x r => x.put (recordCheck (st.loaded r).1 (st.loaded r).2) r) x

theorem shadowsLoaded_get (st : Store) (rs : List RecordId) (x : RecordSet) {r : RecordId} (h : r ∈ rs) :
    (shadowsLoaded st rs x).get r = st.loaded r := by
  induction rs using List.reverseRecOn with
  | nil => exact absurd h List.not_mem_nil
  | append_singleton rs q ih =>
    rw [shadowsLoaded, List.foldl_append, List.foldl_cons, List.foldl_nil, records_get_put, loaded_id]
    by_cases hq : r = q
    · rw [if_pos hq, hq]
    · rw [if_neg hq]
      exact ih ((List.mem_append.mp h).resolve_right (by simpa using hq))

theorem refsLoaded_get (st : Store) (rs : List RecordId) (x : RecordChecks) {r : RecordId} (h : r ∈ rs) :
    (refsLoaded st rs x).get r = recordCheck (st.loaded r).1 (st.loaded r).2 := by
  induction rs using List.reverseRecOn with
  | nil => exact absurd h List.not_mem_nil
  | append_singleton rs q ih =>
    rw [refsLoaded, List.foldl_append, List.foldl_cons, List.foldl_nil, checks_get_put]
    by_cases hq : r = q
    · rw [if_pos hq, hq]
    · rw [if_neg hq]
      exact ih ((List.mem_append.mp h).resolve_right (by simpa using hq))

/-- The entries of the load of one record (R163). -/
def recordEntries (time : Option Nat) (st : Store) (r : RecordId) : List FaultEntry :=
  let wrong := bitDistance (heldBytes (st.records.get r).1 (st.records.get r).2)
    (heldBytes (st.sealed.get r).1 (st.sealed.get r).2)
  if wrong = 0 then []
  else [⟨time, if wrong = 1 then .calCorrected else .calUncorrectable, none, BitVec.ofNat 32 (recordNo r)⟩]

theorem loadOutcome_eq (st : Store) (r : RecordId) : st.loadOutcome r =
    if st.recordDamage r = 0 then .clean else if st.recordDamage r = 1 then .corrected else .uncorrectable := by
  unfold Store.loadOutcome
  split
  · simp_all
  · simp_all
  · rename_i h0 h1
    rw [if_neg h0, if_neg h1]

theorem loadRecord_eq (r : RecordId) (s : State) (ns : List Notice) : Work.loadRecord r ⟨s, ns⟩ =
    ⟨{ (recordEntries s.stamp s.store r).foldl State.logFault s with cal := { s.cal with
        shadows := s.cal.shadows.put (s.store.loaded r).1 (s.store.loaded r).2
        refs := s.cal.refs.put (recordCheck (s.store.loaded r).1 (s.store.loaded r).2) r } },
      ns ++ (recordEntries s.stamp s.store r).flatMap faultNotices⟩ := by
  have hentries : recordEntries s.stamp s.store r = if s.store.recordDamage r = 0 then [] else
    [⟨s.stamp, if s.store.recordDamage r = 1 then .calCorrected else .calUncorrectable, none, BitVec.ofNat 32 (recordNo r)⟩] := rfl
  rw [hentries, ← logged_cal]
  unfold Work.loadRecord Store.loadOutcome
  dsimp only
  match s.store.recordDamage r with
  | 0 => simp [Work.mapSt]
  | 1 => exact fault_eq .calCorrected none _ _ ns
  | n + 2 =>
    simp only [Nat.reduceEqDiff, reduceCtorEq, if_false, Nat.add_eq_zero_iff, and_false]
    exact fault_eq .calUncorrectable none _ _ ns

theorem loadRecords_eq (rs : List RecordId) (s : State) (ns : List Notice) :
    rs.foldl (fun w r => w.loadRecord r) (Work.mk s ns) =
    ⟨{ (rs.flatMap (recordEntries s.stamp s.store)).foldl State.logFault s with cal := { s.cal with
        shadows := shadowsLoaded s.store rs s.cal.shadows
        refs := refsLoaded s.store rs s.cal.refs } },
      ns ++ (rs.flatMap (recordEntries s.stamp s.store)).flatMap faultNotices⟩ := by
  induction rs generalizing s ns with
  | nil => simp [shadowsLoaded, refsLoaded]
  | cons r rs ih =>
    rw [List.foldl_cons, loadRecord_eq, ih, List.flatMap_cons, List.foldl_append, List.flatMap_append, List.append_assoc]
    simp only [logged_cal]
    have hstamp : ({ (recordEntries s.stamp s.store r).foldl State.logFault s with cal := { s.cal with
        shadows := s.cal.shadows.put (s.store.loaded r).1 (s.store.loaded r).2
        refs := s.cal.refs.put (recordCheck (s.store.loaded r).1 (s.store.loaded r).2) r } } : State).stamp = s.stamp :=
      logged_stamp _ s
    rw [hstamp, logged_store]
    rfl

/-- The entry of a stored checksum that fails its code (R162). -/
def checksumEntries (time : Option Nat) (st : Store) : List FaultEntry :=
  if st.checksumFails then [⟨time, .calUncorrectable, none, 14⟩] else []

theorem loadChecksum_eq (bad : Bool) (s : State) (x : Calibration) (ns : List Notice) : Work.loadChecksum bad ⟨{ s with cal := x }, ns⟩ =
    ⟨{ (checksumEntries s.stamp s.store).foldl State.logFault s with cal := { x with
        consistent := !bad && !s.store.checksumFails && s.store.checksumSealed == x.refs.checksum } },
      ns ++ (checksumEntries s.stamp s.store).flatMap faultNotices⟩ := by
  rw [← logged_cal]
  unfold Work.loadChecksum checksumEntries
  dsimp only
  cases s.store.checksumFails with
  | false => simp [Work.mapSt]
  | true => exact fault_eq .calUncorrectable none 14 _ ns

/-- The entries of a load are those of the records, and that of a checksum that fails its code (R162, R163). -/
theorem loadEntries_eq (time : Option Nat) (st : Store) : loadEntries time st =
    allRecords.flatMap (recordEntries time st) ++ checksumEntries time st := rfl

/-- The checksum state a load decides (R162, R163). -/
def loadedConsistent (s : State) : Bool :=
  !(allRecords.any (fun r => s.store.loadOutcome r == .uncorrectable)) && !s.store.checksumFails
    && s.store.checksumSealed == (refsLoaded s.store allRecords s.cal.refs).checksum

/-- The calibration after a load (R162, R163). -/
@[irreducible] def calLoaded (s : State) : Calibration :=
  { s.cal with
    shadows := shadowsLoaded s.store allRecords s.cal.shadows
    refs := refsLoaded s.store allRecords s.cal.refs
    consistent := loadedConsistent s }

/-- The load of the records of a list, and then of the stored checksum. -/
theorem loadListed_eq (rs : List RecordId) (bad : Bool) (s : State) (ns : List Notice) :
    (rs.foldl (fun w r => w.loadRecord r) (Work.mk s ns)).loadChecksum bad =
    ⟨{ (rs.flatMap (recordEntries s.stamp s.store) ++ checksumEntries s.stamp s.store).foldl State.logFault s with
        cal := { s.cal with
          shadows := shadowsLoaded s.store rs s.cal.shadows
          refs := refsLoaded s.store rs s.cal.refs
          consistent := !bad && !s.store.checksumFails && s.store.checksumSealed == (refsLoaded s.store rs s.cal.refs).checksum } },
      ns ++ (rs.flatMap (recordEntries s.stamp s.store) ++ checksumEntries s.stamp s.store).flatMap faultNotices⟩ := by
  rw [loadRecords_eq, loadChecksum_eq, logged_stamp, logged_store, List.foldl_append, List.flatMap_append, ← List.append_assoc]

theorem loadAll_eq (s : State) (ns : List Notice) : Work.loadAll ⟨s, ns⟩ =
    ⟨{ (loadEntries s.stamp s.store).foldl State.logFault s with cal := calLoaded s },
      ns ++ (loadEntries s.stamp s.store).flatMap faultNotices⟩ := by
  rw [loadEntries_eq]
  rw [calLoaded]
  exact loadListed_eq allRecords _ s ns

/-! ## Lines that calibration no longer vouches for (R41, R59, R154, R155) -/

/-- What a change of a line's state sends (R203). -/
def changeNotices (l : LineId) (old new : Line) : List Notice :=
  if new.state = old.state then [] else lineNotices l new false

/-- A line whose delivery takes the halt cause CAL_INTEGRITY where it stands (R59). -/
def integrityMarked (ln : Line) : Line := { ln with delivery := { ln.delivery with haltCause := some .calIntegrity } }

/-- A line that holds a delivery, one of whose latched records is affected (R59). -/
def struck (affected : List RecordId) (l : LineId) (ln : Line) : Line :=
  if affected.any (fun r => ln.latches l r) then
    match ln.state with
    | .armed | .flowing | .paused => halted .calIntegrity ln
    | .halted | .settling => integrityMarked ln
    | .unverified | .idle | .recording => ln
  else ln

/-- An IDLE line without a sound calibration (R41). -/
def withdrawn (sound : Bool) (ln : Line) : Line := if ln.state = .idle ∧ sound = false then freed .unverified ln else ln

/-- An UNVERIFIED line with a sound calibration (R155). -/
def restored (sound : Bool) (ln : Line) : Line := if ln.state = .unverified ∧ sound = true then freed .idle ln else ln

theorem changeNotices_self (l : LineId) (ln : Line) : changeNotices l ln ln = [] := if_pos rfl

theorem changeNotices_of_ne {l : LineId} {old new : Line} (h : new.state ≠ old.state) :
    changeNotices l old new = lineNotices l new false := if_neg h

theorem work_setLine_self (l : LineId) (s : State) (ns : List Notice) :
    (⟨s, ns⟩ : Work) = ⟨s.setLine l (s.line l), ns ++ changeNotices l (s.line l) (s.line l)⟩ := by
  rw [setLine_self, changeNotices_self, List.append_nil]

theorem applyAffected_eq (affected : List RecordId) (l : LineId) (s : State) (ns : List Notice) :
    Work.applyAffected affected l ⟨s, ns⟩ =
      ⟨s.setLine l (struck affected l (s.line l)), ns ++ changeNotices l (s.line l) (struck affected l (s.line l))⟩ := by
  have hsame : ∀ ln : Line, ln.state = (s.line l).state → (⟨s.setLine l ln, ns⟩ : Work) =
      ⟨s.setLine l ln, ns ++ changeNotices l (s.line l) ln⟩ := fun ln h => by
    rw [changeNotices, if_pos h, List.append_nil]
  have hhalt : (s.line l).state ≠ .halted → Work.haltLine l .calIntegrity ⟨s, ns⟩ =
      ⟨s.setLine l (halted .calIntegrity (s.line l)), ns ++ changeNotices l (s.line l) (halted .calIntegrity (s.line l))⟩ :=
    fun h => (haltLine_eq l .calIntegrity ⟨s, ns⟩ h).trans (by rw [changeNotices_of_ne (Ne.symm h)])
  unfold Work.applyAffected struck
  dsimp only
  by_cases h : affected.any (fun r => (s.line l).latches l r) = true
  · simp only [h, Bool.not_true, Bool.false_eq_true, if_false, if_true]
    cases hs : (s.line l).state with
    | armed | flowing | paused => exact hhalt (by rw [hs]; exact nofun)
    | halted | settling => exact (mapDelivery_eq l _ _).trans (hsame (integrityMarked (s.line l)) rfl)
    | unverified | idle | recording => exact work_setLine_self l s ns
  · simp only [Bool.not_eq_true] at h
    simp only [h, Bool.not_false, if_true, Bool.false_eq_true, if_false]
    exact work_setLine_self l s ns

theorem changeState_freed {l : LineId} {s : State} {st : LineState} (ns : List Notice) (h : (s.line l).state ≠ st)
    (hst : st = .idle ∨ st = .unverified) : Work.changeState l st false ⟨s, ns⟩ =
      ⟨s.setLine l (freed st (s.line l)), ns ++ changeNotices l (s.line l) (freed st (s.line l))⟩ := by
  rw [Work.changeState_ne l st false ⟨s, ns⟩ h, changeNotices_of_ne (Ne.symm h), ← enter_freed st _ hst, lineNotices_eq]

theorem withdrawIdle_eq (l : LineId) (s : State) (ns : List Notice) : Work.withdrawIdle l ⟨s, ns⟩ =
    ⟨s.setLine l (withdrawn (s.lineSound l) (s.line l)),
      ns ++ changeNotices l (s.line l) (withdrawn (s.lineSound l) (s.line l))⟩ := by
  unfold Work.withdrawIdle withdrawn
  dsimp only
  by_cases h : (s.line l).state = .idle ∧ s.lineSound l = false
  · rw [if_pos h, if_pos (by simpa using h)]
    exact changeState_freed ns (by rw [h.1]; exact nofun) (.inr rfl)
  · rw [if_neg h, if_neg (by simpa using h)]
    exact work_setLine_self l s ns

theorem restore_eq (l : LineId) (s : State) (ns : List Notice) : Work.restore l ⟨s, ns⟩ =
    ⟨s.setLine l (restored (s.lineSound l) (s.line l)),
      ns ++ changeNotices l (s.line l) (restored (s.lineSound l) (s.line l))⟩ := by
  unfold Work.restore restored
  dsimp only
  by_cases h : (s.line l).state = .unverified ∧ s.lineSound l = true
  · rw [if_pos h, if_pos h]
    exact changeState_freed ns (by rw [h.1]; exact nofun) (.inl rfl)
  · rw [if_neg h, if_neg h]
    exact work_setLine_self l s ns

/-- Both lines given the affected records, and then both judged by their calibration (R166 steps 4 and 5). -/
theorem strike_withdraw_eq (affected : List RecordId) (s : State) (ns : List Notice) :
    let x := struck affected .a (s.line .a)
    let y := struck affected .b (s.line .b)
    let x' := withdrawn (s.lineSound .a) x
    let y' := withdrawn (s.lineSound .b) y
    (((Work.applyAffected affected .a ⟨s, ns⟩).applyAffected affected .b).withdrawIdle .a).withdrawIdle .b =
      ⟨{ s with lines := ⟨x', y'⟩ }, ns ++ changeNotices .a (s.line .a) x ++ changeNotices .b (s.line .b) y
        ++ changeNotices .a x x' ++ changeNotices .b y y'⟩ := by
  intro x y x' y'
  rw [applyAffected_eq, applyAffected_eq, withdrawIdle_eq, withdrawIdle_eq]
  rfl

/-- Both lines judged by their calibration, and then both given the affected records (R154). -/
theorem withdraw_strike_eq (affected : List RecordId) (s : State) (ns : List Notice) :
    let x := withdrawn (s.lineSound .a) (s.line .a)
    let y := withdrawn (s.lineSound .b) (s.line .b)
    let x' := struck affected .a x
    let y' := struck affected .b y
    (((Work.withdrawIdle .a ⟨s, ns⟩).withdrawIdle .b).applyAffected affected .a).applyAffected affected .b =
      ⟨{ s with lines := ⟨x', y'⟩ }, ns ++ changeNotices .a (s.line .a) x ++ changeNotices .b (s.line .b) y
        ++ changeNotices .a x x' ++ changeNotices .b y y'⟩ := by
  intro x y x' y'
  rw [withdrawIdle_eq, withdrawIdle_eq, applyAffected_eq, applyAffected_eq]
  rfl

/-- Both lines given their calibration back (R155). -/
theorem restoreBoth_eq (s : State) (ns : List Notice) :
    let x := restored (s.lineSound .a) (s.line .a)
    let y := restored (s.lineSound .b) (s.line .b)
    (Work.restore .a ⟨s, ns⟩).restore .b =
      ⟨{ s with lines := ⟨x, y⟩ }, ns ++ changeNotices .a (s.line .a) x ++ changeNotices .b (s.line .b) y⟩ := by
  intro x y
  rw [restore_eq, restore_eq]
  rfl

/-! ## A failed sweep (R166) -/

/-- The entries of a failed sweep (R166 steps 1 and 2). -/
def sweepEntries (bad : List RecordId) (s : State) : List FaultEntry :=
  ⟨s.stamp, .calIntegrity, none, mismatchDetail bad⟩ :: loadEntries s.stamp s.store

/-- A line after a failed sweep. -/
def sweptLine (bad : List RecordId) (s : State) (l : LineId) : Line :=
  let t : State := { s with cal := calLoaded s }
  withdrawn (t.lineSound l) (struck (t.affectedBy bad) l (s.line l))

theorem calLoaded_logFault (s : State) (e : FaultEntry) : calLoaded (s.logFault e) = calLoaded s := by
  have hcal : (s.logFault e).cal = s.cal := logged_calibration [e] s
  rw [calLoaded, loadedConsistent, hcal, State.logFault_store, calLoaded, loadedConsistent]

theorem stamp_logFault (s : State) (e : FaultEntry) : (s.logFault e).stamp = s.stamp := logged_stamp [e] s

theorem failedSweep_eq (bad : List RecordId) (s : State) (ns : List Notice) :
    let t : State := { s with cal := calLoaded s }
    let hit := fun l => struck (t.affectedBy bad) l (s.line l)
    Work.failedSweep bad ⟨s, ns⟩ = ⟨{ (sweepEntries bad s).foldl State.logFault s with
        cal := calLoaded s
        lines := ⟨sweptLine bad s .a, sweptLine bad s .b⟩ },
      ns ++ (sweepEntries bad s).flatMap faultNotices ++ changeNotices .a (s.line .a) (hit .a)
        ++ changeNotices .b (s.line .b) (hit .b) ++ changeNotices .a (hit .a) (sweptLine bad s .a)
        ++ changeNotices .b (hit .b) (sweptLine bad s .b)⟩ := by
  intro t hit
  have hload : ((Work.mk s ns).fault .calIntegrity none (mismatchDetail bad)).loadAll =
      ⟨{ (sweepEntries bad s).foldl State.logFault s with cal := calLoaded s },
        ns ++ (sweepEntries bad s).flatMap faultNotices⟩ := by
    rw [fault_eq, loadAll_eq, calLoaded_logFault, stamp_logFault, State.logFault_store, List.append_assoc, sweepEntries, List.foldl_cons,
      List.flatMap_cons]
  rw [Work.failedSweep, hload]
  obtain ⟨log, x, hform⟩ : ∃ log x, (sweepEntries bad s).foldl State.logFault s = { s with faultLog := log, engine := x } :=
    ⟨_, _, logged_form _ s⟩
  rw [hform]
  generalize (sweepEntries bad s).flatMap faultNotices = told
  exact strike_withdraw_eq (t.affectedBy bad) { s with faultLog := log, engine := x, cal := calLoaded s } _

theorem mismatched_all_iff (s : State) : s.mismatched allRecords = [] ↔ ∀ r, agrees s r := by
  simp [State.mismatched, agrees, RecordSet.check, mem_allRecords]

theorem affectedBy_iff (s : State) (bad : List RecordId) (r : RecordId) : r ∈ s.affectedBy bad ↔
    s.cal.consistent = false ∨ r ∈ bad ∨ s.store.recordDamage r ≠ 0 := by
  have hclean : s.store.loadOutcome r = .clean ↔ s.store.recordDamage r = 0 := by
    rw [loadOutcome_eq]
    split
    · simp_all
    · split <;> simp_all
  unfold State.affectedBy
  cases s.cal.consistent <;> simp [mem_allRecords, hclean]

/-- The line latches an affected record (R59). -/
theorem anyLatched_iff (affected : List RecordId) (l : LineId) (ln : Line) :
    affected.any (fun r => ln.latches l r) = true ↔ ln.state.holds = true ∧
      (.line l ∈ affected ∨ .meter l ln.delivery.product ∈ affected ∨ .product ln.delivery.product ∈ affected) := by
  simp only [List.any_eq_true, latches_iff]
  aesop

/-- What the affected records make of a line: halted, marked, or left alone. -/
theorem struck_cases (affected : List RecordId) (l : LineId) (ln : Line) :
    (struck affected l ln = halted .calIntegrity ln ∧ (ln.state = .armed ∨ ln.state = .flowing ∨ ln.state = .paused)) ∨
    (struck affected l ln = integrityMarked ln ∧ (ln.state = .halted ∨ ln.state = .settling)) ∨ struck affected l ln = ln := by
  unfold struck
  split
  · cases ln.state <;> simp
  · exact .inr (.inr rfl)

theorem struck_of_not {affected : List RecordId} {l : LineId} {ln : Line}
    (h : ¬ affected.any (fun r => ln.latches l r) = true) : struck affected l ln = ln := if_neg h

theorem struck_closed (affected : List RecordId) (l : LineId) {ln : Line}
    (h : ln.state = .idle ∨ ln.state = .unverified ∨ ln.state = .recording) : struck affected l ln = ln := by
  unfold struck
  split
  · rcases h with h | h | h <;> rw [h]
  · rfl

theorem withdrawn_of_not_idle {sound : Bool} {ln : Line} (h : ln.state ≠ .idle) : withdrawn sound ln = ln :=
  if_neg fun hidle => h hidle.1

theorem withdrawn_of_sound {ln : Line} : withdrawn true ln = ln := if_neg fun h => Bool.noConfusion h.2

theorem withdrawn_of_unsound {ln : Line} (h : ln.state = .idle) : withdrawn false ln = freed .unverified ln := if_pos ⟨h, rfl⟩

/-- A withdrawal is told by the state it leaves. -/
theorem withdrawn_told (sound : Bool) (l : LineId) (ln : Line) : changeNotices l ln (withdrawn sound ln) =
    if (withdrawn sound ln).state = .unverified ∧ ln.state ≠ .unverified then lineNotices l (withdrawn sound ln) false else [] := by
  by_cases h : ln.state = .idle ∧ sound = false
  · have hnew : withdrawn sound ln = freed .unverified ln := if_pos h
    have hstate : (freed .unverified ln).state = .unverified := rfl
    rw [hnew, changeNotices_of_ne (by rw [hstate, h.1]; exact nofun), if_pos ⟨hstate, by rw [h.1]; exact nofun⟩]
  · have hnew : withdrawn sound ln = ln := if_neg h
    rw [hnew, changeNotices_self, if_neg fun h => h.2 h.1]

/-- What the affected records and the withdrawal after them tell, by the state the line is left in. -/
theorem struck_told (affected : List RecordId) (sound : Bool) (l : LineId) (ln : Line) :
    (changeNotices l ln (struck affected l ln) =
      if (withdrawn sound (struck affected l ln)).state = .halted ∧ ln.state ≠ .halted
      then lineNotices l (withdrawn sound (struck affected l ln)) false else []) ∧
    (changeNotices l (struck affected l ln) (withdrawn sound (struck affected l ln)) =
      if (withdrawn sound (struck affected l ln)).state = .unverified ∧ ln.state ≠ .unverified
      then lineNotices l (withdrawn sound (struck affected l ln)) false else []) := by
  have hcases := struck_cases affected l ln
  generalize struck affected l ln = x at hcases ⊢
  rcases hcases with ⟨rfl, hst⟩ | ⟨rfl, hst⟩ | rfl
  · have hhalted : (halted .calIntegrity ln).state = .halted := rfl
    have hne : ln.state ≠ .halted := by rcases hst with h | h | h <;> rw [h] <;> exact nofun
    rw [withdrawn_of_not_idle (by rw [hhalted]; exact nofun), changeNotices_self, changeNotices_of_ne (by rw [hhalted]; exact hne.symm),
      if_pos ⟨hhalted, hne⟩, if_neg (by rw [hhalted]; exact fun h => LineState.noConfusion h.1)]
    exact ⟨rfl, rfl⟩
  · have hsame : (integrityMarked ln).state = ln.state := rfl
    rw [withdrawn_of_not_idle (by rw [hsame]; rcases hst with h | h <;> rw [h] <;> exact nofun), changeNotices_self, changeNotices,
      if_pos hsame, hsame, if_neg fun h => h.2 h.1, if_neg fun h => h.2 h.1]
    exact ⟨rfl, rfl⟩
  · refine ⟨?_, withdrawn_told sound l x⟩
    rw [changeNotices_self]
    refine (if_neg fun h => ?_).symm
    by_cases hidle : x.state = .idle ∧ sound = false
    · rw [withdrawn, if_pos hidle] at h
      exact LineState.noConfusion h.1
    · rw [withdrawn, if_neg hidle] at h
      exact h.2 h.1

/-! ## The load's outcome (R162, R163) -/

theorem bitDistance_self (bs : List Byte) : bitDistance bs bs = 0 := by
  induction bs with
  | nil => rfl
  | cons b bs ih => simp [bitDistance, byteDistance, ih]

theorem checksumFails_eq_false {st : Store} (h : st.checksum = st.checksumSealed) : st.checksumFails = false := by
  simp [Store.checksumFails, h, bitDistance_self]

/-- The shadows and reference checks after a load (R163). -/
theorem calLoaded_get (s : State) (r : RecordId) : (calLoaded s).shadows.get r = s.store.loaded r ∧
    (calLoaded s).refs.get r = recordCheck (s.store.loaded r).1 (s.store.loaded r).2 := by
  rw [calLoaded]
  exact ⟨shadowsLoaded_get _ _ _ (mem_allRecords r), refsLoaded_get _ _ _ (mem_allRecords r)⟩

/-- A load leaves the rest of the calibration alone. -/
theorem calLoaded_rest (s : State) : (calLoaded s).settings = s.cal.settings ∧ (calLoaded s).pendingWrite = s.cal.pendingWrite ∧
    (calLoaded s).lastSweep = s.cal.lastSweep ∧ (calLoaded s).sweepRunning = s.cal.sweepRunning := by
  rw [calLoaded]
  exact ⟨rfl, rfl, rfl, rfl⟩

theorem uncorrectable_iff (st : Store) (r : RecordId) : st.loadOutcome r = .uncorrectable ↔ 2 ≤ st.recordDamage r := by
  unfold Store.loadOutcome
  match st.recordDamage r with
  | 0 => simp
  | 1 => simp
  | n + 2 => simp

/-- When a load finds the checksum CONSISTENT (R162, R163). -/
theorem loadedConsistent_iff (s : State) : (calLoaded s).consistent = true ↔ (∀ r, s.store.recordDamage r ≤ 1) ∧
    s.store.checksumFails = false ∧ s.store.checksumSealed = (calLoaded s).refs.checksum := by
  have hdamage : (allRecords.any fun r => s.store.loadOutcome r == .uncorrectable) = false ↔ ∀ r, s.store.recordDamage r ≤ 1 := by
    simp only [List.any_eq_false, beq_iff_eq, uncorrectable_iff, mem_allRecords, true_implies, Nat.not_le, Nat.lt_succ_iff]
  simp only [loadedConsistent, Bool.and_eq_true, Bool.not_eq_true', hdamage, beq_iff_eq, and_assoc, calLoaded]

/-- A line after a failed sweep, by its state (R166 steps 4 and 5). -/
theorem sweptLine_eq (bad : List RecordId) (s : State) (l : LineId) :
    let ln := s.line l
    let affected := fun r => (calLoaded s).consistent = false ∨ r ∈ bad ∨ s.store.recordDamage r ≠ 0
    let hit := affected (.line l) ∨ affected (.meter l ln.delivery.product) ∨ affected (.product ln.delivery.product)
    (ln.state = .armed ∨ ln.state = .flowing ∨ ln.state = .paused → hit → sweptLine bad s l = halted .calIntegrity ln) ∧
    (ln.state = .halted ∨ ln.state = .settling → hit → sweptLine bad s l = integrityMarked ln) ∧
    (ln.state = .idle → ((calLoaded s).shadows.line.get l).valid = false ∨ (calLoaded s).consistent = false →
      sweptLine bad s l = freed .unverified ln) ∧
    (ln.state = .idle → ((calLoaded s).shadows.line.get l).valid = true → (calLoaded s).consistent = true →
      sweptLine bad s l = ln) ∧
    (ln.state = .unverified ∨ ln.state = .recording ∨ (ln.state.isOpen = true ∧ ¬ hit) → sweptLine bad s l = ln) := by
  intro ln affected hit
  have hany : (({ s with cal := calLoaded s } : State).affectedBy bad).any (fun r => ln.latches l r) = true ↔
      ln.state.holds = true ∧ hit := by
    rw [anyLatched_iff]
    simp only [affectedBy_iff]
    exact Iff.rfl
  have hswept : sweptLine bad s l = withdrawn (((calLoaded s).shadows.line.get l).valid && (calLoaded s).consistent)
      (struck (({ s with cal := calLoaded s } : State).affectedBy bad) l ln) := rfl
  rw [hswept]
  generalize (({ s with cal := calLoaded s } : State).affectedBy bad) = rs at hany ⊢
  refine ⟨fun hst h => ?_, fun hst h => ?_, fun hst h => ?_, fun hst hvalid hok => ?_, fun h => ?_⟩
  · have hstruck : struck rs l ln = halted .calIntegrity ln := by
      rw [struck, if_pos (hany.mpr ⟨by rcases hst with h | h | h <;> rw [h] <;> rfl, h⟩)]
      rcases hst with h | h | h <;> rw [h]
    rw [hstruck, withdrawn_of_not_idle (by exact nofun)]
  · have hstruck : struck rs l ln = integrityMarked ln := by
      rw [struck, if_pos (hany.mpr ⟨by rcases hst with h | h <;> rw [h] <;> rfl, h⟩)]
      rcases hst with h | h <;> rw [h]
    rw [hstruck, withdrawn_of_not_idle (by change ln.state ≠ .idle; rcases hst with h | h <;> rw [h] <;> exact nofun)]
  · have hunsound : (((calLoaded s).shadows.line.get l).valid && (calLoaded s).consistent) = false :=
      Bool.and_eq_false_iff.mpr h
    rw [struck_closed rs l (.inl hst), hunsound, withdrawn_of_unsound hst]
  · rw [struck_closed rs l (.inl hst), hvalid, hok, Bool.and_self, withdrawn_of_sound]
  · rcases h with hst | hst | ⟨hst, hnot⟩
    · rw [struck_closed rs l (.inr (.inl hst)), withdrawn_of_not_idle (by rw [hst]; exact nofun)]
    · rw [struck_closed rs l (.inr (.inr hst)), withdrawn_of_not_idle (by rw [hst]; exact nofun)]
    · rw [struck_of_not fun h => hnot (hany.mp h).2,
        withdrawn_of_not_idle fun hidle => by rw [hidle] at hst; exact Bool.noConfusion hst]

theorem failedSweep_st {bad : List RecordId} {s : State} {ns : List Notice} {w : Work} (h : w = Work.failedSweep bad ⟨s, ns⟩) :
    w.st = { (sweepEntries bad s).foldl State.logFault s with
      cal := calLoaded s, lines := ⟨sweptLine bad s .a, sweptLine bad s .b⟩ } := by
  rw [h, failedSweep_eq]

theorem failedSweep_told {bad : List RecordId} {s : State} {ns : List Notice} {w : Work} {t : State}
    (h : w = Work.failedSweep bad ⟨s, ns⟩) (hline : ∀ l, t.line l = sweptLine bad s l) :
    let told := fun (l : LineId) (st : LineState) => if (t.line l).state = st ∧ (s.line l).state ≠ st
        then lineNotices l (t.line l) false else []
    w.notes = ns ++ (sweepEntries bad s).flatMap faultNotices
      ++ told .a .halted ++ told .b .halted ++ told .a .unverified ++ told .b .unverified := by
  intro told
  have hhit := fun l => struck_told (({ s with cal := calLoaded s } : State).affectedBy bad)
    (({ s with cal := calLoaded s } : State).lineSound l) l (s.line l)
  rw [h, failedSweep_eq]
  simp only [told, hline, sweptLine]
  rw [(hhit .a).1, (hhit .b).1, (hhit .a).2, (hhit .b).2]

theorem failedSweep_changes {bad : List RecordId} {s : State} {ns : List Notice} {w : Work}
    (h : w = Work.failedSweep bad ⟨s, ns⟩) : w.st.cal = calLoaded s ∧ (∀ l, w.st.line l = sweptLine bad s l) ∧
      w.st.faultLog = ((sweepEntries bad s).foldl State.logFault s).faultLog ∧
      w.st.engine = ((sweepEntries bad s).foldl State.logFault s).engine := by
  rw [failedSweep_st h]
  generalize (sweepEntries bad s).foldl State.logFault s = t
  exact ⟨rfl, fun l => by cases l <;> simp only [State.line, PerLine.get], rfl, rfl⟩

theorem failedSweep_rest {bad : List RecordId} {s : State} {ns : List Notice} {w : Work} (h : w = Work.failedSweep bad ⟨s, ns⟩) :
    w.st.orders = s.orders ∧ w.st.plans = s.plans ∧ w.st.journal = s.journal ∧ w.st.restart = s.restart ∧ w.st.store = s.store ∧
      w.st.inputs = s.inputs ∧ w.st.links = s.links ∧ w.st.pending = s.pending ∧ w.st.pump = s.pump ∧
      w.st.dlvFault = s.dlvFault ∧ w.st.estopHold = s.estopHold ∧ w.st.restartHold = s.restartHold := by
  rw [failedSweep_st h, logged_form]
  generalize ((sweepEntries bad s).foldl State.logFault s) = t
  exact ⟨rfl, rfl, rfl, rfl, rfl, rfl, rfl, rfl, rfl, rfl, rfl, rfl⟩

/-- Settles O40: a sweep without a mismatch, and one with. -/
theorem sweepPassesOrFails : Obligations.SweepPassesOrFails := by
  intro s hrun hsweep
  have hdue : (s.taking && s.cal.sweepRunning) = true := by rw [taking_of_running hrun, hsweep, Bool.and_self]
  refine ⟨fun hagree => ?_, fun hnot => ?_⟩
  · have hwork : Work.sweepAll ⟨s, []⟩ = ⟨{ s with cal := { s.cal with lastSweep := some true } }, []⟩ := by
      simp only [Work.sweepAll, (mismatched_all_iff s).mpr hagree, Work.mapSt]
      rfl
    exact event_taken (c := fun w => w.st.taking && w.st.cal.sweepRunning) hdue hwork rfl rfl
  · intro w
    have hbad : (s.mismatched allRecords).isEmpty = false := by
      simpa [List.isEmpty_eq_false_iff] using mt (mismatched_all_iff s).mp hnot
    have hwork : Work.sweepAll ⟨s, []⟩ = w := by
      simp only [Work.sweepAll, hbad, w, disagreeing_eq, Work.mapSt]
      rfl
    obtain ⟨-, -, -, hrestart, -, -, hlinks, -⟩ := failedSweep_rest (w := w) rfl
    clear_value w
    obtain ⟨t, ns⟩ := w
    exact event_taken (c := fun w => w.st.taking && w.st.cal.sweepRunning) hdue hwork hlinks (congrArg _ hrestart)

/-- Settles O41: the load, then the lines it strikes. -/
theorem failedSweepReloadsAndHalts : Obligations.FailedSweepReloadsAndHalts := by
  intro bad s ns w t wrong affected
  obtain ⟨hcal, hline, hfault, hengine⟩ := failedSweep_changes (w := w) rfl
  obtain ⟨horders, hplans, hjournal, hrestart, hstore, hinputs, hlinks, hpending, hpump, hdlv, hestop, hhold⟩ :=
    failedSweep_rest (w := w) rfl
  have htold := failedSweep_told (w := w) rfl hline
  have hget := calLoaded_get s
  have hok := loadedConsistent_iff s
  clear_value w
  refine ⟨fun r => ?_, fun ⟨r, hr⟩ => ?_, fun h => ?_, fun hwrong hsum hsealed => ?_, fun l => ?_, ?_, horders, hplans, hjournal,
    hrestart, hstore, hinputs, hlinks, hpending, hpump, hdlv, hestop, hhold, ?_, ?_, ?_, ?_⟩
  · obtain ⟨hshadow, hcheck⟩ := hget r
    simp only [t, hcal, hshadow, hcheck, loaded_eq]
    refine ⟨fun h hvalid => if_pos ⟨h, hvalid⟩, fun h => ?_, trivial⟩
    have hlost : ¬ (s.store.recordDamage r ≤ 1 ∧ (s.store.sealed.get r).1 = true) := fun ⟨hone, hvalid⟩ =>
      h.elim (fun htwo => absurd (htwo.trans hone) (by decide)) (fun hinvalid => Bool.noConfusion (hinvalid.symm.trans hvalid))
    rw [if_neg hlost]
  · simp only [t, hcal]
    exact Bool.eq_false_iff.mpr fun h => absurd (hr.trans ((hok.mp h).1 r)) (by decide)
  · simp only [t, hcal] at h ⊢
    exact Bool.eq_false_iff.mpr fun hc => h (hok.mp hc).2.2
  · simp only [t, hcal] at hsealed ⊢
    exact hok.mpr ⟨hwrong, checksumFails_eq_false hsum, hsealed⟩
  · simp only [t, hline, affected, hcal]
    exact sweptLine_eq bad s l
  · exact ⟨hfault, hengine, htold⟩
  all_goals simp only [t, hcal, calLoaded_rest s]

end Sys2Proof.Safety
end

section
/-! PROOF. The completions of the write units (R141, R142, R154, R160, R202): O43, O44 and O45. -/

namespace Sys2Proof.Safety

open Sys2Proof.Machine

/-! ## A completion by what its block does -/

section
variable {take : InFlight → Option (Work → Work)} {f : Work → Work} {s t : State} {x : InFlight}

theorem completion_eq (hx : s.engine.inFlight = some x) (hf : take x = some f) :
    completion take s = event (fun w => (f w).finishUnit) s := by
  simp only [completion, event, hx, hf]

/-- A completion whose block sends notices. -/
theorem completion_told {ns : List Notice} (hx : s.engine.inFlight = some x) (hf : take x = some f)
    (hw : f ⟨s, []⟩ = ⟨t, ns⟩) (hl : t.links = s.links) (hp : t.restart.phase = s.restart.phase) :
    completion take s = .next (State.drive { t.engineNext.placeFree with links := noticed s ns }) := by
  rw [completion_eq hx hf]
  exact event_told (t := t.engineNext.placeFree) (ns := ns) (by rw [hw]; rfl) (by simpa using hl) (by simpa using hp)

/-- A completion whose block sends nothing. -/
theorem completion_quiet (hx : s.engine.inFlight = some x) (hf : take x = some f) (hw : f ⟨s, []⟩ = ⟨t, []⟩) :
    completion take s = .next t.engineNext.placeFree.drive := by
  rw [completion_eq hx hf, event_next, hw]
  rfl

/-- A completion with no unit of its kind in flight (log 4). -/
theorem completion_untaken (h : ∀ x, s.engine.inFlight = some x → take x = none) : completion take s = .next s.drive := by
  refine event_nothing ?_
  split
  · rfl
  · rename_i x hx
    rw [h x hx]

end

/-! ## Journal appends (R142, R72) -/

theorem restState_eq (s : State) (l : LineId) : restState s l = s.restState l := by
  unfold restState State.restState State.lineSound
  simp only [Bool.not_eq_true', Bool.and_eq_false_iff]

theorem restState_cases (s : State) (l : LineId) : s.restState l = .idle ∨ s.restState l = .unverified := by
  unfold State.restState
  split
  · exact .inr rfl
  · exact .inl rfl

theorem rest_ne_recording (s : State) (l : LineId) : s.restState l ≠ .recording := by
  rcases restState_cases s l with h | h <;> rw [h] <;> exact nofun

/-- A line in RECORDING taken to rest (R72). -/
theorem changeState_rest {l : LineId} {s : State} (ns : List Notice) (h : (s.line l).state = .recording) :
    Work.changeState l (s.restState l) false ⟨s, ns⟩ =
      ⟨s.setLine l (freed (s.restState l) (s.line l)), ns ++ lineNotices l (freed (s.restState l) (s.line l)) false⟩ := by
  have hne : (s.line l).state ≠ s.restState l := by rw [h]; exact (rest_ne_recording s l).symm
  rw [changeState_freed ns hne (restState_cases s l), changeNotices_of_ne hne.symm]

theorem ticketReady_eq (number : Nat) (s : State) (ns : List Notice) : Work.ticketReady number ⟨s, ns⟩ =
    ⟨s, ns ++ [⟨.cab, .ticketReady, laid (.fixed (beBytes 4 number) :: summary s.journal)⟩]⟩ := by
  rw [laid_eq, summary_eq]
  rfl

theorem freeSlot_eq {s : State} {l : LineId} {n : SlotNo} {m : LineId} {o : Order} (hslot : (s.line l).delivery.slot = some n)
    (hbound : s.orders.slot n = .bound m o) :
    s.freeSlot l = { s with orders := { s.orders with slots := s.orders.slots.set n.val .free n.isLt } } := by
  simp only [State.freeSlot, hslot, OrderTable.freeBound, hbound]
  rfl

/-- A line's controller finishes its SALE (R72). -/
theorem finishSaleLine_eq {s : State} {l : LineId} {n : SlotNo} {m : LineId} {o : Order} (number : Nat) (ns : List Notice)
    (hst : (s.line l).state = .recording) (hslot : (s.line l).delivery.slot = some n) (hbound : s.orders.slot n = .bound m o) :
    Work.finishSaleLine l number ⟨s, ns⟩ =
      ⟨({ s with orders := { s.orders with slots := s.orders.slots.set n.val .free n.isLt } } : State).setLine l
          (freed (s.restState l) (s.line l)),
        ns ++ [⟨.cab, .ticketReady, laid (.fixed (beBytes 4 number) :: summary s.journal)⟩]
          ++ lineNotices l (freed (s.restState l) (s.line l)) false⟩ := by
  simp only [Work.finishSaleLine, Work.mapSt, freeSlot_eq hslot hbound, ticketReady_eq]
  exact changeState_rest (s := { s with orders := { s.orders with slots := s.orders.slots.set n.val .free n.isLt } }) _ hst

/-- Settles O43: the phase and the unit decide. -/
theorem appendCompletes : Obligations.AppendCompletes := by
  intro s l recovery number next ticket h marks ring hx place unmarked j store ready
  have hphase : ∀ p : Bool, s.taking = p → ({ s with journal := j, store := store } : State).taking = p := fun _ h => h
  refine ⟨fun hrec => ?_, fun hrec hnot => ?_, fun n m o hrec hrun hst hslot hbound => ?_⟩
  · subst hrec
    exact completion_told hx rfl (t := { s with journal := j, store := store })
      (ticketReady_eq number { s with journal := j, store := store } []) rfl rfl
  · subst hrec
    refine completion_quiet hx rfl (t := { s with journal := j, store := store })
      ((if_neg Bool.false_ne_true).trans (if_neg ?_))
    exact fun htaking => Bool.noConfusion ((hphase false (taking_of_not_running hnot)).symm.trans htaking)
  · subst hrec
    intro ln
    have hrest : ln = freed (s.restState l) (s.line l) := by simp only [ln, restState_eq]
    rw [hrest]
    have hwork := finishSaleLine_eq (s := { s with journal := j, store := store }) number [] hst hslot hbound
    exact completion_told hx rfl ((if_pos (hphase true (taking_of_running hrun))).trans hwork) rfl rfl

/-! ## The other units (R141, R160, R202) -/

theorem testResult_eq (run : TestRun) (s : State) (ns : List Notice) : Work.testResult run ⟨s, ns⟩ =
    ⟨s, ns ++ [⟨.metrology, .testResult, resultBytes (auditNumber s.store (s.store.audit.length - 1)) run⟩]⟩ := by
  rw [resultBytes_eq, auditNumber_eq]
  rfl

/-- Completions without their units change nothing (log 4). -/
theorem completions_untaken (s : State) :
    let untaken := fun (kind : WriteUnit → Prop) (c : Instr) =>
      (∀ x, s.engine.inFlight = some x → ¬ kind x.unit) → exec c s = .next s.drive
    untaken (fun u => ∃ l recovery number next ticket, u = .journalAppend l recovery number next ticket)
      .journalAppendCompletion ∧
    untaken (fun u => ∃ r check checksum counter e, u = .calibration r check checksum counter e)
      .calibrationWriteCompletion ∧
    untaken (fun u => ∃ l recovery run, u = .testRecord l recovery run) .testRecordCompletion ∧
    untaken (fun u => ∃ n m, u = .restartUpdate n m) .restartUpdateCompletion ∧
    untaken (fun u => u = .faultLog) .faultLogWriteCompletion := by
  refine ⟨fun h => completion_untaken (take := takeAppendUnit) fun x hx => ?_,
    fun h => completion_untaken (take := takeCalibrationUnit) fun x hx => ?_,
    fun h => completion_untaken (take := takeTestUnit) fun x hx => ?_,
    fun h => completion_untaken (take := takeUpdateUnit) fun x hx => ?_,
    fun h => completion_untaken (take := takeFaultLogUnit) fun x hx => ?_⟩
  · unfold takeAppendUnit
    split
    · rename_i hu
      exact absurd ⟨_, _, _, _, _, hu⟩ (h x hx)
    · rfl
  · unfold takeCalibrationUnit
    split
    · rename_i hu
      exact absurd ⟨_, _, _, _, _, hu⟩ (h x hx)
    · rfl
  · unfold takeTestUnit
    split
    · rename_i hu
      exact absurd ⟨_, _, _, hu⟩ (h x hx)
    · rfl
  · unfold takeUpdateUnit
    split
    · rename_i hu
      exact absurd ⟨_, _, hu⟩ (h x hx)
    · rfl
  · unfold takeFaultLogUnit
    split
    · rename_i hu
      exact absurd hu (h x hx)
    · rfl

/-- A completed test record (R72, R160): what it stores, and the line and the held snapshot by the phase. -/
theorem testRecord_completes {s : State} {l : LineId} {recovery : Bool} {run : TestRun} {h : JournalHeader} {marks : BitVec 256}
    {ring : List FaultEntry} (hx : s.engine.inFlight = some ⟨.testRecord l recovery run, h, marks, ring⟩) :
    let store := s.store.audited (.testRun run)
    let result : Notice := ⟨.metrology, .testResult, resultBytes (auditNumber store (store.audit.length - 1)) run⟩
    (s.restart.phase = .running → recovery = true → exec .testRecordCompletion s = .next (State.drive {
      (State.engineNext { s with store := store }).placeFree with links := noticed s [result] })) ∧
    (s.restart.phase = .running → recovery = false → (s.line l).state = .recording →
      let ln := freed (restState s l) (s.line l)
      exec .testRecordCompletion s = .next (State.drive {
        (State.engineNext { s with store := store, lines := s.lines.set l ln }).placeFree with
        links := noticed s (result :: lineNotices l ln false) })) ∧
    (s.restart.phase ≠ .running →
      let x := s.restart.held.get l
      let held := s.restart.held.set l (if x.state = .recording ∧ x.delivery.mode = some .test
        then { x with written := true } else x)
      exec .testRecordCompletion s = .next (State.drive {
        (State.engineNext { s with store := store, restart := { s.restart with held := held } }).placeFree with
        links := noticed s (if recovery = true then [result] else []) })) := by
  intro store result
  have hrunning : s.restart.phase = .running → s.takeTestRecord l run = { s with store := store } := fun hrun => by
    simp only [State.takeTestRecord, taking_of_running hrun, if_true, store]
  refine ⟨fun hrun hrec => ?_, fun hrun hrec hst => ?_, fun hnot => ?_⟩
  · subst hrec
    refine completion_told hx rfl (t := { s with store := store }) ?_ rfl rfl
    simp only [Work.mapSt, hrunning hrun, if_true]
    exact testResult_eq run { s with store := store } []
  · subst hrec
    intro ln
    have hrest : ln = freed (s.restState l) (s.line l) := by simp only [ln, restState_eq]
    have htaking : ({ s with store := store } : State).taking = true := taking_of_running hrun
    rw [hrest]
    refine completion_told hx rfl
      (t := ({ s with store := store } : State).setLine l (freed (s.restState l) (s.line l))) ?_ rfl rfl
    simp only [Work.mapSt, hrunning hrun, Bool.false_eq_true, if_false, htaking, if_true, testResult_eq, List.nil_append]
    exact changeState_rest (s := { s with store := store }) [result] hst
  · intro x held
    have hstored : s.takeTestRecord l run = { s with store := store, restart := { s.restart with held := held } } := by
      simp only [State.takeTestRecord, taking_of_not_running hnot, Bool.false_eq_true, if_false]
      rfl
    have htaking : ({ s with store := store, restart := { s.restart with held := held } } : State).taking = false :=
      taking_of_not_running hnot
    refine completion_told hx rfl (t := { s with store := store, restart := { s.restart with held := held } }) ?_ rfl rfl
    cases recovery
    · simp only [Work.mapSt, hstored, Bool.false_eq_true, if_false, htaking]
    · simp only [Work.mapSt, hstored, if_true]
      exact testResult_eq run { s with store := store, restart := { s.restart with held := held } } []

theorem written_eq (f : FaultLog) (carried : List FaultEntry) : f.written carried.length = { f with
    ring := f.ring.map (fun x => ⟨x.entry, x.stored || x.carried, false⟩)
    outstanding := none
    wanted := f.wanted || decide (f.ring.length ≠ carried.length ∨ ∃ x ∈ f.ring, x.carried = false) } := by
  have hchanged : (f.wanted || f.ring.any (fun e => !e.carried) || f.ring.length != carried.length) =
      (f.wanted || decide (f.ring.length ≠ carried.length ∨ ∃ x ∈ f.ring, x.carried = false)) := by
    rw [Bool.or_assoc, Bool.eq_iff_iff]
    simp only [Bool.or_eq_true, List.any_eq_true, Bool.not_eq_true', bne_iff_ne, decide_eq_true_eq]
    exact or_congr_right or_comm
  rw [FaultLog.written, hchanged]
  rfl

/-- Settles O45: each kind by its own unit. -/
theorem otherUnitsComplete : Obligations.OtherUnitsComplete := by
  intro s
  refine ⟨fun h marks ring => ⟨fun l recovery run hx => testRecord_completes hx, fun n m hx => ?_, fun hx => ?_⟩,
    completions_untaken s⟩
  · exact completion_quiet hx rfl rfl
  · refine completion_quiet (take := takeFaultLogUnit) hx rfl ?_
    simp only [Work.mapSt, State.takeFaultLog, written_eq]

/-! ## Calibration writes (R154, R155) -/

theorem audited_eq (st : Store) (e : AuditEntry) : st.audited e = { st with
    audit := (if 64 ≤ st.audit.length then st.audit.drop 1 else st.audit) ++ [e]
    auditOldest := if 64 ≤ st.audit.length then (if st.auditOldest < 4294967295 then st.auditOldest + 1 else 1)
      else st.auditOldest } := by
  unfold Store.audited
  by_cases h : st.audit.length < 64
  · simp only [if_pos h, if_neg (Nat.not_le.mpr h)]
  · simp only [if_neg h, if_pos (Nat.not_lt.mp h)]
    rfl

/-- WRITE_DONE, and the lines that are given their calibration back (R155). -/
theorem afterCalibration_consistent {s : State} (r : RecordId) (ns : List Notice) (h : s.cal.consistent = true) :
    let ln := fun l => restored (s.cal.shadows.line.get l).valid (s.line l)
    Work.afterCalibration r ⟨s, ns⟩ = ⟨{ s with lines := ⟨ln .a, ln .b⟩ },
      ns ++ [⟨.metrology, .writeDone, writeDoneBody s r⟩] ++ changeNotices .a (s.line .a) (ln .a)
        ++ changeNotices .b (s.line .b) (ln .b)⟩ := by
  intro ln
  have hsound : ∀ l, s.lineSound l = (s.cal.shadows.line.get l).valid := fun l => by rw [State.lineSound, h, Bool.and_true]
  simp only [Work.afterCalibration, Work.notify, h, if_true]
  rw [restoreBoth_eq, hsound, hsound]

/-- WRITE_DONE, and the lines of a part whose calibration fails (R154). -/
theorem afterCalibration_failed {s : State} (r : RecordId) (ns : List Notice) (h : s.cal.consistent = false) :
    let idle := fun l => withdrawn false (s.line l)
    let ln := fun l => struck allRecords l (idle l)
    Work.afterCalibration r ⟨s, ns⟩ = ⟨{ s with lines := ⟨ln .a, ln .b⟩ },
      ns ++ [⟨.metrology, .writeDone, writeDoneBody s r⟩] ++ changeNotices .a (s.line .a) (idle .a)
        ++ changeNotices .b (s.line .b) (idle .b) ++ changeNotices .a (idle .a) (ln .a) ++ changeNotices .b (idle .b) (ln .b)⟩ := by
  intro idle ln
  have hsound : ∀ l, s.lineSound l = false := fun l => by rw [State.lineSound, h, Bool.and_false]
  have hkeep : ∀ (l : LineId) (x : PerLine Line) (ns : List Notice),
      Work.restore l ⟨{ s with lines := x }, ns⟩ = ⟨{ s with lines := x }, ns⟩ := fun l x ns =>
    if_neg fun hback => Bool.noConfusion ((hsound l).symm.trans hback.2)
  simp only [Work.afterCalibration, Work.notify, h, Bool.false_eq_true, if_false]
  rw [withdraw_strike_eq, hkeep, hkeep, hsound, hsound]

theorem restored_told (sound : Bool) (l : LineId) (ln : Line) : changeNotices l ln (restored sound ln) =
    if ln.state = .unverified ∧ sound = true then lineNotices l (restored sound ln) false else [] := by
  by_cases h : ln.state = .unverified ∧ sound = true
  · have hnew : restored sound ln = freed .idle ln := if_pos h
    rw [hnew, if_pos h, changeNotices_of_ne (by rw [h.1]; exact nofun)]
  · have hnew : restored sound ln = ln := if_neg h
    rw [hnew, if_neg h, changeNotices_self]

/-- A line of a part whose calibration fails, by its state (R154). -/
def failedLine (ln : Line) : Line :=
  match ln.state with
  | .idle => freed .unverified ln
  | .armed | .flowing | .paused => halted .calIntegrity ln
  | .halted | .settling => integrityMarked ln
  | .unverified | .recording => ln

theorem struck_all {l : LineId} {ln : Line} (h : ln.state ≠ .idle) : struck allRecords l ln = failedLine ln := by
  have hall : ln.state.holds = true → allRecords.any (fun r => ln.latches l r) = true := fun hst =>
    (anyLatched_iff _ _ _).mpr ⟨hst, .inl (mem_allRecords _)⟩
  unfold struck failedLine
  cases hst : ln.state with
  | idle => exact absurd hst h
  | armed | flowing | paused | halted | settling | recording => exact if_pos (hall (by rw [hst]; rfl))
  | unverified => exact ite_self _

/-- What it becomes, and what it tells on the way. -/
theorem failedLine_eq (l : LineId) (ln : Line) :
    struck allRecords l (withdrawn false ln) = failedLine ln ∧
    (changeNotices l ln (withdrawn false ln) = if ln.state = .idle then lineNotices l (failedLine ln) false else []) ∧
    changeNotices l (withdrawn false ln) (struck allRecords l (withdrawn false ln)) =
      if ln.state = .armed ∨ ln.state = .flowing ∨ ln.state = .paused then lineNotices l (failedLine ln) false else [] := by
  by_cases hidle : ln.state = .idle
  · have hnew : failedLine ln = freed .unverified ln := by rw [failedLine, hidle]
    rw [withdrawn_of_unsound hidle, struck_closed allRecords l (ln := freed .unverified ln) (.inr (.inl rfl)), hnew, changeNotices_self,
      changeNotices_of_ne (by rw [hidle]; exact nofun), if_pos hidle, if_neg (by rw [hidle]; decide)]
    exact ⟨rfl, rfl, rfl⟩
  · rw [withdrawn_of_not_idle hidle, struck_all hidle, changeNotices_self, if_neg hidle, changeNotices]
    refine ⟨rfl, rfl, ?_⟩
    unfold failedLine
    cases hst : ln.state with
    | idle => exact absurd hst hidle
    | _ => simp [hst, halted, integrityMarked]

/-- Settles O44: the phase, and the checksum state that the write leaves. -/
theorem calibrationWriteCompletes : Obligations.CalibrationWriteCompletes := by
  intro s c check checksum counter e h marks ring hx ok full s1 done
  have htake : s.takeCalibration c check checksum counter e = s1 := by
    simp only [State.takeCalibration, Store.calibrated, audited_eq]
    rfl
  have hdone : (⟨.metrology, .writeDone, writeDoneBody s1 c.id⟩ : Notice) = done := rfl
  have hlinks : s1.links = s.links := rfl
  have hrestart : s1.restart = s.restart := rfl
  have hok : s1.cal.consistent = ok := rfl
  have hline : ∀ l, s1.line l = s.line l := fun l => rfl
  clear_value done
  have hwork : takeCalibrationUnit ⟨.calibration c check checksum counter e, h, marks, ring⟩ =
      some (fun w => if (w.mapSt (fun s => s.takeCalibration c check checksum counter e)).st.taking
        then (w.mapSt (fun s => s.takeCalibration c check checksum counter e)).afterCalibration c.id
        else w.mapSt (fun s => s.takeCalibration c check checksum counter e)) := rfl
  have htaking : s.restart.phase = .running → s1.taking = true := fun hrun => taking_of_running (by rw [hrestart, hrun])
  refine ⟨fun hnot => ?_, fun hrun hgood => ?_, fun hrun hbad => ?_⟩
  · refine completion_quiet hx hwork ?_
    have hidle : s1.taking = false := taking_of_not_running (by rwa [hrestart])
    simp only [Work.mapSt, htake, hidle, Bool.false_eq_true, if_false]
  · intro back ln ns
    have hafter := afterCalibration_consistent (s := s1) c.id [] (hok.trans hgood)
    have hnew : ∀ l, restored (s1.cal.shadows.line.get l).valid (s.line l) = ln l := fun l => rfl
    have hns : ∀ l, changeNotices l (s.line l) (ln l) = ns l := fun l => restored_told _ l (s.line l)
    refine completion_told hx hwork (t := { s1 with lines := ⟨ln .a, ln .b⟩ }) ?_ hlinks (congrArg _ hrestart)
    simp only [Work.mapSt, htake, htaking hrun, if_true, hafter, hline, hdone, hnew, hns, List.nil_append, List.cons_append]
  · intro ln told idle open'
    have hafter := afterCalibration_failed (s := s1) c.id [] (hok.trans hbad)
    have hnew : ∀ l, ln l = failedLine (s.line l) := fun l => rfl
    refine completion_told hx hwork (t := { s1 with lines := ⟨ln .a, ln .b⟩ }) ?_ hlinks (congrArg _ hrestart)
    simp only [Work.mapSt, htake, htaking hrun, if_true]
    obtain ⟨ha, hna, hsa⟩ := failedLine_eq .a (s.line .a)
    obtain ⟨hb, hnb, hsb⟩ := failedLine_eq .b (s.line .b)
    rw [ha] at hsa
    rw [hb] at hsb
    simp only [hafter, hline, hdone, hna, hnb, hsa, hsb, ha, hb, told, idle, open', hnew, List.nil_append, List.cons_append]

end Sys2Proof.Safety
end

section
/-! PROOF. The timers of a line: the flow window (R12 to R16) and the end of SETTLING (R66 to R71): O36 to O39. -/

namespace Sys2Proof.Safety

open Sys2Proof.Machine

/-! ## Operations on a part whose line has just changed -/

section
variable {s : State} {l : LineId} {x : Line} (ns : List Notice)

theorem mapDelivery_at (f : Delivery → Delivery) : Work.mapDelivery l f ⟨s.setLine l x, ns⟩ =
    ⟨s.setLine l { x with delivery := f x.delivery }, ns⟩ := by
  rw [mapDelivery_eq]
  simp only [State.setLine_line, setLine_setLine]

theorem haltLine_at (c : HaltCause) (h : x.state ≠ .halted) : Work.haltLine l c ⟨s.setLine l x, ns⟩ =
    ⟨s.setLine l (halted c x), ns ++ lineNotices l (halted c x) false⟩ := by
  rw [haltLine_eq _ _ _ (by simpa using h)]
  simp only [State.setLine_line, setLine_setLine]

theorem pauseLine_at (c : PauseCause) (h : x.state ≠ .paused) : Work.pauseLine l c ⟨s.setLine l x, ns⟩ =
    ⟨s.setLine l (paused c x), ns ++ lineNotices l (paused c x) false⟩ := by
  rw [pauseLine_eq _ _ _ (by simpa using h)]
  simp only [State.setLine_line, setLine_setLine]

theorem settleLine_at (c : EndCause) (h : x.state ≠ .settling) : Work.settleLine l c ⟨s.setLine l x, ns⟩ =
    ⟨s.setLine l (settled c x), ns ++ lineNotices l (settled c x) false⟩ := by
  rw [settleLine_eq _ _ _ (by simpa using h)]
  simp only [State.setLine_line, setLine_setLine]

/-- A sample changes the line, and logs its entry beside it (R26 to R29). -/
theorem probeSample_at (raw : BitVec 16) : Work.probeSample l raw ⟨s.setLine l x, ns⟩ =
    ⟨(probed s l x.delivery raw).setLine l (sampled x raw), ns ++ probeNotices s l x.delivery raw⟩ := by
  obtain ⟨hfirst, hnot⟩ := probeSample_eq l raw ⟨s.setLine l x, ns⟩
  simp only [State.setLine_line, setLine_setLine] at hfirst hnot
  unfold probed probeNotices
  by_cases h : firstInvalid x.delivery raw
  · rw [if_pos h, if_pos h, hfirst h, fault_setLine]
    rfl
  · rw [if_neg h, if_neg h, hnot h, List.append_nil]

end

/-- A sample sees of the delivery the flag and the offset alone. -/
theorem probed_congr {d d' : Delivery} (hflag : d'.flags.probeFault = d.flags.probeFault)
    (hoffset : d'.latched.line.probeOffset = d.latched.line.probeOffset) (s : State) (l : LineId) (raw : BitVec 16) :
    probed s l d' raw = probed s l d raw ∧ probeNotices s l d' raw = probeNotices s l d raw := by
  have hvalue : corrected d' raw = corrected d raw := by rw [corrected, corrected, hoffset]
  have hfirst : firstInvalid d' raw ↔ firstInvalid d raw := by rw [firstInvalid, firstInvalid, hvalue, hflag]
  have hentry : probeEntry s l d' raw = probeEntry s l d raw := by rw [probeEntry, probeEntry, hvalue]
  unfold probed probeNotices
  rw [hentry]
  by_cases h : firstInvalid d raw
  · rw [if_pos h, if_pos h, if_pos (hfirst.mpr h), if_pos (hfirst.mpr h)]
    exact ⟨rfl, rfl⟩
  · rw [if_neg h, if_neg h, if_neg (mt hfirst.mp h), if_neg (mt hfirst.mp h)]
    exact ⟨rfl, rfl⟩

theorem probeNotices_stamp {s t : State} (h : t.stamp = s.stamp) (l : LineId) (d : Delivery) (raw : BitVec 16) :
    probeNotices t l d raw = probeNotices s l d raw := by
  simp only [probeNotices, probeEntry, h]

/-- A sample's entry changes the log and the engine alone. -/
theorem probed_form (s : State) (l : LineId) (d : Delivery) (raw : BitVec 16) : probed s l d raw =
    { s with faultLog := (probed s l d raw).faultLog, engine := (probed s l d raw).engine } := by
  unfold probed
  split
  · exact logFault_form s _
  · rfl

/-! ## The flow window (R12 to R16) -/

theorem nextStrikes_eq (d : Delivery) : d.nextStrikes = nextStrikes d := by
  have hgap : d.counts.pickupGap =
      if d.counts.nA ≤ d.counts.nB then d.counts.nB - d.counts.nA else d.counts.nA - d.counts.nB := by
    unfold Counts.pickupGap
    split <;> omega
  simp only [Delivery.nextStrikes, nextStrikes, Delivery.gapTooWide, hgap, decide_eq_true_eq, bump_eq]

theorem judge_eq (ln : Line) : ({ ln with delivery := ln.delivery.judgeWindow } : Line) = judged ln := by
  have hband : selectBand ln.delivery.latched.line ln.delivery.counts.nA =
      if ln.delivery.counts.nA ≤ ln.delivery.latched.line.lowMax.toNat then .low
      else if ln.delivery.latched.line.highMin.toNat ≤ ln.delivery.counts.nA then .high else .main := rfl
  simp only [Delivery.judgeWindow, judged, nextStrikes_eq, hband]
  rfl

theorem runningTotal_eq (l : LineId) (d : Delivery) :
    (⟨.reel, .runningTotal, runningTotalBody l d⟩ : Notice) = runningTotal l d := by
  simp only [runningTotal, runningTotalBody, Delivery.runningBilled, bandByte_eq]
  cases d.latched.product.basis <;> rfl

/-- Steps 7 and 8 of an expiry. -/
theorem expiryReport_at {s : State} {l : LineId} {x : Line} (ns : List Notice) : Work.expiryReport l ⟨s.setLine l x, ns⟩ =
    ⟨s.setLine l (windowCleared x), ns ++ [runningTotal l x.delivery]⟩ := by
  have h := mapDelivery_at (s := s) (l := l) (x := x) (ns ++ [runningTotal l x.delivery]) Delivery.clearWindow
  rw [← runningTotal_eq] at h ⊢
  refine Eq.trans ?_ h
  simp only [Work.expiryReport, Work.notify, State.setLine_line]

/-- Steps 1 to 3 of an expiry, by what they raise. -/
theorem expiryJudge_eq (s : State) (l : LineId) (hflow : (s.line l).state = .flowing) :
    let d := (s.line l).delivery
    let e : FaultEntry := ⟨s.stamp, .pickupMismatch, some l, BitVec.ofNat 32 (d.counts.nA * 65536 + d.counts.nB)⟩
    let lnH := halted .pickupMismatch (judged (s.line l))
    let lnP := paused .noFlow (judged (s.line l))
    (nextStrikes d = 2 → Work.expiryJudge l ⟨s, []⟩ =
      ⟨(s.logFault e).setLine l lnH, lineNotices l lnH false ++ faultNotices e⟩) ∧
    (nextStrikes d ≠ 2 → d.latched.settings.noFlow.toNat ≤ nextRun d → Work.expiryJudge l ⟨s, []⟩ =
      ⟨s.setLine l lnP, lineNotices l lnP false⟩) ∧
    (nextStrikes d ≠ 2 → nextRun d < d.latched.settings.noFlow.toNat → Work.expiryJudge l ⟨s, []⟩ =
      ⟨s.setLine l (judged (s.line l)), []⟩) := by
  intro d e lnH lnP
  have hjudged : Work.mapDelivery l Delivery.judgeWindow ⟨s, []⟩ = ⟨s.setLine l (judged (s.line l)), []⟩ := by
    rw [mapDelivery_eq, judge_eq]
  have hstate : (judged (s.line l)).state = .flowing := hflow
  have hstrikes : d.mismatchRaised = true ↔ nextStrikes d = 2 := by rw [Delivery.mismatchRaised, nextStrikes_eq, beq_iff_eq]
  refine ⟨fun h => ?_, fun h hrun => ?_, fun h hrun => ?_⟩
  · rw [Work.expiryJudge, hjudged]
    refine (if_pos (hstrikes.mpr h)).trans ?_
    rw [haltLine_at [] .pickupMismatch (by rw [hstate]; exact nofun), fault_setLine]
    rfl
  · have hraised : d.noFlowRaised = true := by
      rw [Delivery.noFlowRaised, Bool.eq_false_iff.mpr (mt hstrikes.mp h)]
      exact decide_eq_true hrun
    rw [Work.expiryJudge, hjudged]
    refine (if_neg (mt hstrikes.mp h)).trans ((if_pos hraised).trans ?_)
    exact pauseLine_at [] .noFlow (by rw [hstate]; exact nofun)
  · have hraised : ¬ d.noFlowRaised = true := by
      rw [Delivery.noFlowRaised, Bool.and_eq_true, decide_eq_true_eq]
      exact fun hraised => absurd hraised.2 (Nat.not_le.mpr hrun)
    rw [Work.expiryJudge, hjudged]
    exact (if_neg (mt hstrikes.mp h)).trans (if_neg hraised)

/-- Steps 5 and 6 of an expiry that raised no event, by the load and the latch check. -/
theorem expiryLoad_at {s : State} {l : LineId} {x : Line} (ns : List Notice) (hflow : x.state = .flowing) :
    let ln := { x with delivery := loaded x.delivery }
    let d := ln.delivery
    let e : FaultEntry := ⟨s.stamp, .latchIntegrity, some l, d.checkCode⟩
    (d.preset.stop ≤ d.counts.g → Work.expiryLoad l ⟨s.setLine l x, ns⟩ =
      ⟨s.setLine l (settled (targetCause d) ln), ns ++ lineNotices l (settled (targetCause d) ln) false⟩) ∧
    (d.counts.g < d.preset.stop → latchCode d.latched = d.checkCode → Work.expiryLoad l ⟨s.setLine l x, ns⟩ =
      ⟨s.setLine l ln, ns⟩) ∧
    (d.counts.g < d.preset.stop → latchCode d.latched ≠ d.checkCode → Work.expiryLoad l ⟨s.setLine l x, ns⟩ =
      ⟨(s.logFault e).setLine l (halted .latchIntegrity ln),
        ns ++ lineNotices l (halted .latchIntegrity ln) false ++ faultNotices e⟩) := by
  intro ln d e
  have hload : Work.mapDelivery l Delivery.load ⟨s.setLine l x, ns⟩ = ⟨s.setLine l ln, ns⟩ := by
    rw [mapDelivery_at, load_eq]
  have hline : (s.setLine l ln).line l = ln := State.setLine_line s l ln
  have hstate : ln.state = .flowing := hflow
  have hstop : d.atStop = true ↔ d.preset.stop ≤ d.counts.g := by rw [Delivery.atStop, decide_eq_true_eq]
  have hcause : d.stopCause = targetCause d := stopCause_eq d
  refine ⟨fun h => ?_, fun h hlatch => ?_, fun h hlatch => ?_⟩
  · rw [Work.expiryLoad, hload]
    dsimp only
    rw [hline, if_pos (hstop.mpr h), settleLine_at ns _ (by rw [hstate]; exact nofun), hcause]
  · rw [Work.expiryLoad, hload]
    dsimp only
    rw [hline, if_neg (mt hstop.mp (Nat.not_le.mpr h)), Work.latchCheck]
    dsimp only
    rw [hline, if_pos hlatch]
  · rw [Work.expiryLoad, hload]
    dsimp only
    rw [hline, if_neg (mt hstop.mp (Nat.not_le.mpr h)), Work.latchCheck]
    dsimp only
    rw [hline, if_neg hlatch, haltLine_at ns _ (by rw [hstate]; exact nofun), fault_setLine]

theorem probed_stamp (s : State) (l : LineId) (d : Delivery) (raw : BitVec 16) : (probed s l d raw).stamp = s.stamp := by
  rw [probed_form]
  rfl

/-- An expiry that raised no event, from its sample on. -/
theorem flowExpiry_flowing {s t : State} {l : LineId} {raw : BitVec 16} {x y : Line} {ns ms : List Notice}
    (hjudge : Work.expiryJudge l ⟨s, []⟩ = ⟨s.setLine l x, ns⟩) (hflow : x.state = .flowing)
    (hload : Work.expiryLoad l ⟨(probed s l x.delivery raw).setLine l (sampled x raw), ns ++ probeNotices s l x.delivery raw⟩ =
      ⟨t.setLine l y, ms⟩) :
    Work.flowExpiry l raw ⟨s, []⟩ = ⟨t.setLine l (windowCleared y), ms ++ [runningTotal l y.delivery]⟩ := by
  have hstate : (((probed s l x.delivery raw).setLine l (sampled x raw)).line l).state = .flowing := by
    rw [State.setLine_line]
    exact hflow
  rw [Work.flowExpiry, hjudge, probeSample_at]
  dsimp only
  rw [if_pos hstate, hload, expiryReport_at]

/-- An expiry that raised an event, from its sample on. -/
theorem flowExpiry_stopped {s t : State} {l : LineId} {raw : BitVec 16} {x : Line} {ns : List Notice}
    (hjudge : Work.expiryJudge l ⟨s, []⟩ = ⟨t.setLine l x, ns⟩) (hstop : x.state ≠ .flowing) :
    Work.flowExpiry l raw ⟨s, []⟩ = ⟨(probed t l x.delivery raw).setLine l (windowCleared (sampled x raw)),
      ns ++ probeNotices t l x.delivery raw ++ [runningTotal l (sampled x raw).delivery]⟩ := by
  have hstate : (((probed t l x.delivery raw).setLine l (sampled x raw)).line l).state ≠ .flowing := by
    rw [State.setLine_line]
    exact hstop
  rw [Work.flowExpiry, hjudge, probeSample_at]
  dsimp only
  rw [if_neg hstate, expiryReport_at]

/-- What a FLOW_WINDOW_EXPIRY of a running window does. -/
theorem exec_flowWindow {l : LineId} {raw : BitVec 16} {s t : State} {x : Line} {ns : List Notice}
    (hrun : s.restart.phase = .running) (hflow : (s.line l).state = .flowing) (hwindow : (s.line l).windowRunning = true)
    (hwork : Work.flowExpiry l raw ⟨s, []⟩ = ⟨t.setLine l x, ns⟩) (hlinks : t.links = s.links) (hrestart : t.restart = s.restart)
    (hlines : t.lines = s.lines) :
    exec (.flowWindowExpiry l raw) s = .next (State.drive { t with lines := s.lines.set l x, links := noticed s ns }) := by
  have hdue : (s.taking && (s.line l).windowDue) = true := by
    rw [taking_of_running hrun, Line.windowDue, hflow, hwindow]
    rfl
  rw [← hlines]
  exact event_taken (c := fun w => w.st.taking && (w.st.line l).windowDue) hdue hwork hlinks (congrArg _ hrestart)

theorem probed_rest (s : State) (l : LineId) (d : Delivery) (raw : BitVec 16) : (probed s l d raw).links = s.links ∧
    (probed s l d raw).restart = s.restart ∧ (probed s l d raw).lines = s.lines := by
  rw [probed_form]
  exact ⟨rfl, rfl, rfl⟩

/-- Settles O36: the judgement raises nothing, and the load decides. -/
theorem flowWindowLoadsTargets : Obligations.FlowWindowLoadsTargets := by
  intro l raw s hrun hflow hwindow hstrikes hzero ln1 ln d s1 ns e
  obtain ⟨hlinks, hrestart, hlines⟩ := probed_rest s l (s.line l).delivery raw
  obtain ⟨hprobed, hnotices⟩ := probed_congr (d := (s.line l).delivery) (d' := (judged (s.line l)).delivery) rfl rfl s l raw
  obtain ⟨hsettles, hflows, hhalts⟩ := expiryLoad_at (s := s1) (l := l) (x := ln1) ns hflow
  have hjudge := (expiryJudge_eq s l hflow).2.2 hstrikes hzero
  have hexpiry : ∀ {t : State} {y : Line} {ms : List Notice}, Work.expiryLoad l ⟨s1.setLine l ln1, ns⟩ = ⟨t.setLine l y, ms⟩ →
      Work.flowExpiry l raw ⟨s, []⟩ = ⟨t.setLine l (windowCleared y), ms ++ [runningTotal l y.delivery]⟩ := fun hload =>
    flowExpiry_flowing hjudge hflow (by rw [hprobed, hnotices]; exact hload)
  have hstamp : s1.stamp = s.stamp := probed_stamp s l _ raw
  refine ⟨fun h => ?_, fun h hlatch => ?_, fun h hlatch => ?_⟩
  · exact exec_flowWindow hrun hflow hwindow (hexpiry (hsettles h)) hlinks hrestart hlines
  · exact exec_flowWindow hrun hflow hwindow (hexpiry (hflows h hlatch)) hlinks hrestart hlines
  · have hwork := hexpiry (hhalts h hlatch)
    rw [hstamp] at hwork
    exact exec_flowWindow hrun hflow hwindow hwork ((State.logFault_links _ _).trans hlinks)
      ((State.logFault_restart _ _).trans hrestart) ((State.logFault_lines _ _).trans hlines)

/-- Settles O37: the judgement halts or pauses the line, and the sample follows. -/
theorem flowWindowRaisesEvent : Obligations.FlowWindowRaisesEvent := by
  intro l raw s hrun hflow hwindow d e ns lnH lnP
  obtain ⟨hhalts, hpauses, -⟩ := expiryJudge_eq s l hflow
  refine ⟨fun h => ?_, fun h hzero => ?_⟩
  · obtain ⟨hlinks, hrestart, hlines⟩ := probed_rest (s.logFault e) l d raw
    obtain ⟨hprobed, hnotices⟩ := probed_congr (d := d) (d' := lnH.delivery) rfl rfl (s.logFault e) l raw
    have hwork := flowExpiry_stopped (raw := raw) (hhalts h) (by exact nofun)
    rw [hprobed, hnotices, probeNotices_stamp (stamp_logFault s e)] at hwork
    exact exec_flowWindow hrun hflow hwindow hwork (hlinks.trans (State.logFault_links _ _))
      (hrestart.trans (State.logFault_restart _ _)) (hlines.trans (State.logFault_lines _ _))
  · obtain ⟨hlinks, hrestart, hlines⟩ := probed_rest s l d raw
    obtain ⟨hprobed, hnotices⟩ := probed_congr (d := d) (d' := lnP.delivery) rfl rfl s l raw
    have hwork := flowExpiry_stopped (raw := raw) (hpauses h hzero) (by exact nofun)
    rw [hprobed, hnotices] at hwork
    exact exec_flowWindow hrun hflow hwindow hwork hlinks hrestart hlines

/-! ## The end of SETTLING (R66 to R71) -/

/-- A part that differs from another in its fault log and its engine alone. -/
def LoggedFrom (s t : State) : Prop := ∃ log x, t = { s with faultLog := log, engine := x }

theorem loggedFrom_refl (s : State) : LoggedFrom s s := ⟨s.faultLog, s.engine, rfl⟩

theorem loggedFrom_logFault (s : State) (e : FaultEntry) : LoggedFrom s (s.logFault e) := ⟨_, _, logFault_form s e⟩

theorem LoggedFrom.probed {s t : State} (h : LoggedFrom s t) (l : LineId) (d : Delivery) (raw : BitVec 16) :
    LoggedFrom s (probed t l d raw) := by
  obtain ⟨log, x, rfl⟩ := h
  exact ⟨_, _, probed_form _ l d raw⟩

/-- The count closed and the close sample taken (R68 steps 1 to 3). -/
theorem closedSample_at {s t : State} {l : LineId} {x : Line} {raw : BitVec 16} {ns : List Notice} (hfrom : LoggedFrom s t) :
    (Work.mapSt (fun s => s.setDelivery l (s.closedRecord l)) ⟨t.setLine l x, ns⟩).probeSample l raw =
      ⟨(probed t l x.delivery raw).setLine l (sampled (countClosed s x) raw), ns ++ probeNotices s l x.delivery raw⟩ := by
  obtain ⟨hprobed, hnotices⟩ := probed_congr (d := x.delivery) (d' := (countClosed s x).delivery) rfl rfl t l raw
  have hstamp : t.stamp = s.stamp := by
    obtain ⟨log, e, rfl⟩ := hfrom
    rfl
  have hclosed : (t.setLine l x).setDelivery l ((t.setLine l x).closedRecord l) = t.setLine l (countClosed s x) := by
    simp only [State.setDelivery, State.closedRecord, State.setLine_line, setLine_setLine]
    have hstamp' : (t.setLine l x).stamp = s.stamp := hstamp
    rw [hstamp']
    rfl
  have hmap : Work.mapSt (fun s => s.setDelivery l (s.closedRecord l)) ⟨t.setLine l x, ns⟩ = ⟨t.setLine l (countClosed s x), ns⟩ :=
    congrArg (Work.mk · ns) hclosed
  rw [hmap, probeSample_at, hprobed, hnotices, probeNotices_stamp hstamp]

/-- A line in SETTLING taken to rest with nothing delivered (R69). -/
theorem changeState_nothing {s : State} {l : LineId} {x : Line} (ns : List Notice) (hst : x.state = .settling) :
    Work.changeState l ((s.setLine l x).restState l) true ⟨s.setLine l x, ns⟩ =
      ⟨s.setLine l (freed ((s.setLine l x).restState l) x), ns ++ lineNotices l (freed ((s.setLine l x).restState l) x) true⟩ := by
  have hcases := restState_cases (s.setLine l x) l
  generalize (s.setLine l x).restState l = st at hcases ⊢
  have hne : ((s.setLine l x).line l).state ≠ st := by
    rw [State.setLine_line, hst]
    rcases hcases with h | h <;> rw [h] <;> exact nofun
  rw [Work.changeState_ne l st true ⟨s.setLine l x, ns⟩ hne, ← enter_freed st x hcases]
  simp only [State.setLine_line, setLine_setLine, lineNotices_eq]

/-- A TEST closed with nothing is reported (R69). -/
theorem closeEmpty_test {s : State} {l : LineId} {x : Line} (ns : List Notice) (hst : x.state = .settling)
    (hmode : x.delivery.mode = some .test) : Work.closeEmpty l ⟨s.setLine l x, ns⟩ =
      ⟨s.setLine l (freed ((s.setLine l x).restState l) x),
        ns ++ [⟨.metrology, .testResult, beBytes 1 (lineNo l) ++ [0x40]⟩]
          ++ lineNotices l (freed ((s.setLine l x).restState l) x) true⟩ := by
  have hline : ((s.setLine l x).line l).delivery.mode = some .test := by rw [State.setLine_line, hmode]
  have hback : Work.mapSt (fun s => s.giveBack l) ⟨s.setLine l x, ns⟩ = ⟨s.setLine l x, ns⟩ :=
    congrArg (Work.mk · ns) (giveBack_of_test hline)
  rw [Work.closeEmpty, hback]
  dsimp only
  rw [if_pos hline]
  exact changeState_nothing _ hst

/-- A SALE closed with nothing gives its slot and its reservation back (R69). -/
theorem closeEmpty_sale {s : State} {l m : LineId} {x : Line} {n : SlotNo} {o : Order} (ns : List Notice) (hst : x.state = .settling)
    (hmode : x.delivery.mode = some .sale) (hslot : x.delivery.slot = some n) (hbound : s.orders.slot n = .bound m o) :
    let t : State := { s with
      orders := { s.orders with slots := s.orders.slots.set n.val (.waiting o) n.isLt }
      journal := { s.journal with reservations := s.journal.reservations - 1 } }
    Work.closeEmpty l ⟨s.setLine l x, ns⟩ = ⟨t.setLine l (freed ((t.setLine l x).restState l) x),
      ns ++ lineNotices l (freed ((t.setLine l x).restState l) x) true⟩ := by
  intro t
  have hline : ((s.setLine l x).line l).delivery.mode = some .sale := by rw [State.setLine_line, hmode]
  have hback : Work.mapSt (fun s => s.giveBack l) ⟨s.setLine l x, ns⟩ = ⟨t.setLine l x, ns⟩ :=
    congrArg (Work.mk · ns) (giveBack_of_sale hline (by rw [State.setLine_line, hslot]) hbound)
  rw [Work.closeEmpty, hback]
  dsimp only
  rw [if_neg (by rw [hline]; decide)]
  exact changeState_nothing (s := t) ns hst

theorem enter_recording {x : Line} (hst : x.state = .settling) : x.enter .recording = recording x := by
  have hopen : LineState.isUnticketed .settling = false := rfl
  have hrecording : LineState.isUnticketed .recording = true := rfl
  simp [Line.enter, recording, closedValve, hst, hopen, hrecording]

theorem changeState_recording {s : State} {l : LineId} {x : Line} (ns : List Notice) (hst : x.state = .settling) :
    Work.changeState l .recording false ⟨s.setLine l x, ns⟩ =
      ⟨s.setLine l (recording x), ns ++ lineNotices l (recording x) false⟩ := by
  rw [Work.changeState_ne l .recording false ⟨s.setLine l x, ns⟩ (by rw [State.setLine_line, hst]; exact nofun),
    State.setLine_line, enter_recording hst, setLine_setLine, lineNotices_eq]

/-- A SALE closed with a volume (R70). -/
theorem closeSale_at {s : State} {l : LineId} {x : Line} (ns : List Notice) (hst : x.state = .settling) :
    let n := s.journal.nextNumber
    let d := Delivery.finishSale l { x.delivery with ticketNumber := some n }
    let y := recording { x with delivery := d }
    Work.closeSale l ⟨s.setLine l x, ns⟩ =
      ⟨(State.setLine { s with journal := { s.journal with nextNumber := n + 1 } } l y).hand
          (.journalAppend l false n (n + 1) (d.ticket.getD [])), ns ++ lineNotices l y false⟩ := by
  intro n d y
  have hnumber : Work.mapSt (fun s => { s with journal := { s.journal with nextNumber := n + 1 } }) ⟨s.setLine l x, ns⟩ =
      ⟨State.setLine { s with journal := { s.journal with nextNumber := n + 1 } } l x, ns⟩ := rfl
  have hjournal : (Work.mk (s.setLine l x) ns).st.journal.nextNumber = n := rfl
  rw [Work.closeSale]
  dsimp only
  rw [hjournal, hnumber, mapDelivery_at, changeState_recording _ (by exact hst)]
  simp only [Work.mapSt, State.setLine_line]
  rfl

/-- A TEST closed with a volume (R71). -/
theorem closeTest_at {s : State} {l : LineId} {x : Line} {r : TestRun} (ns : List Notice) (hst : x.state = .settling)
    (hrun : (Delivery.finishTest l false x.delivery).testRun = some r) :
    let y := recording { x with delivery := Delivery.finishTest l false x.delivery }
    Work.closeTest l ⟨s.setLine l x, ns⟩ = ⟨(s.setLine l y).hand (.testRecord l false r), ns ++ lineNotices l y false⟩ := by
  intro y
  have hrecord : (recording { x with delivery := Delivery.finishTest l false x.delivery }).delivery.testRun = some r := hrun
  rw [Work.closeTest, mapDelivery_at, changeState_recording _ (by exact hst)]
  simp only [Work.mapSt, State.setLine_line, hrecord]
  rfl

/-- What a QUIET_TIMER_EXPIRY of a running quiet timer does. -/
theorem exec_quiet {l : LineId} {raw : BitVec 16} {s t : State} {ns : List Notice} (hrun : s.restart.phase = .running)
    (hst : (s.line l).state = .settling) (hquiet : (s.line l).quietRunning = true)
    (hwork : Work.close l raw ⟨s.setLine l (s.line l), []⟩ = ⟨t, ns⟩) (hlinks : t.links = s.links) (hrestart : t.restart = s.restart) :
    exec (.quietTimerExpiry l raw) s = .next (State.drive { t with links := noticed s ns }) := by
  have hdue : (s.taking && (s.line l).quietDue) = true := by
    rw [taking_of_running hrun, Line.quietDue, hst, hquiet]
    rfl
  rw [setLine_self] at hwork
  exact event_taken (c := fun w => w.st.taking && (w.st.line l).quietDue) hdue hwork hlinks (congrArg _ hrestart)

/-- The line with the SETTLE_CAP flag (R67). -/
def settleCapped (ln : Line) : Line := { ln with delivery := { ln.delivery with flags := { ln.delivery.flags with settleCap := true } } }

/-- What a CAP_TIMER_EXPIRY of a running cap timer does. -/
theorem exec_cap {l : LineId} {raw : BitVec 16} {s t : State} {ns : List Notice} (hrun : s.restart.phase = .running)
    (hst : (s.line l).state = .settling) (hcap : (s.line l).capRunning = true)
    (hwork : let e : FaultEntry := ⟨s.stamp, .settleCap, some l, BitVec.ofNat 32 (s.line l).delivery.counts.g⟩
      Work.close l raw ⟨(s.logFault e).setLine l (settleCapped (s.line l)), faultNotices e⟩ = ⟨t, ns⟩)
    (hlinks : t.links = s.links) (hrestart : t.restart = s.restart) :
    exec (.capTimerExpiry l raw) s = .next (State.drive { t with links := noticed s ns }) := by
  have hdue : (s.taking && (s.line l).capDue) = true := by
    rw [taking_of_running hrun, Line.capDue, hst, hcap]
    rfl
  have hcapped : Work.settleCap l ⟨s, []⟩ =
      ⟨(s.logFault ⟨s.stamp, .settleCap, some l, BitVec.ofNat 32 (s.line l).delivery.counts.g⟩).setLine l (settleCapped (s.line l)),
        faultNotices ⟨s.stamp, .settleCap, some l, BitVec.ofNat 32 (s.line l).delivery.counts.g⟩⟩ := by
    rw [Work.settleCap, mapDelivery_eq, fault_setLine]
    rfl
  exact event_taken (c := fun w => w.st.taking && (w.st.line l).capDue) (f := fun w => (w.settleCap l).close l raw) hdue
    (by rw [hcapped]; exact hwork) hlinks (congrArg _ hrestart)

/-- A command that closes the delivery of a line in SETTLING: its own entry and notices, and the line as it hands it on. -/
structure Closes (s : State) (l : LineId) (raw : BitVec 16) (c : Instr) (t : State) (ns : List Notice) (x : Line) : Prop where
  acts : ∀ {u : State} {ms : List Notice}, Work.close l raw ⟨t.setLine l x, ns⟩ = ⟨u, ms⟩ → u.links = s.links →
    u.restart = s.restart → exec c s = .next (State.drive { u with links := noticed s ms })
  logged : LoggedFrom s t
  settling : x.state = .settling
  halt : x.delivery.haltCause = (s.line l).delivery.haltCause
  gross : x.delivery.counts.g = (s.line l).delivery.counts.g

theorem closes_quiet {s : State} {l : LineId} (raw : BitVec 16) (hrun : s.restart.phase = .running)
    (hst : (s.line l).state = .settling) (hquiet : (s.line l).quietRunning = true) :
    Closes s l raw (.quietTimerExpiry l raw) s [] (s.line l) where
  acts := exec_quiet hrun hst hquiet
  logged := loggedFrom_refl s
  settling := hst
  halt := rfl
  gross := rfl

theorem closes_cap {s : State} {l : LineId} (raw : BitVec 16) (hrun : s.restart.phase = .running)
    (hst : (s.line l).state = .settling) (hcap : (s.line l).capRunning = true) :
    let e : FaultEntry := ⟨s.stamp, .settleCap, some l, BitVec.ofNat 32 (s.line l).delivery.counts.g⟩
    Closes s l raw (.capTimerExpiry l raw) (s.logFault e) (faultNotices e) (settleCapped (s.line l)) where
  acts := exec_cap hrun hst hcap
  logged := loggedFrom_logFault s _
  settling := hst
  halt := rfl
  gross := rfl

section
variable {s t : State} {l : LineId} {raw : BitVec 16} {c : Instr} {ns : List Notice} {x : Line}

/-- The rest state is decided by what a close leaves alone. -/
theorem restState_closed {u : State} {y : Line} (hcal : u.cal = s.cal)
    (hhalt : y.delivery.haltCause = (s.line l).delivery.haltCause) : (u.setLine l y).restState l = restState s l := by
  rw [restState_eq, State.restState, State.restState, State.setLine_line, hhalt, State.lineSound, State.lineSound,
    State.setLine_cal, hcal]

/-- The close by the record that the close sample leaves (R68). -/
theorem close_eq (h : Closes s l raw c t ns x) : Work.close l raw ⟨t.setLine l x, ns⟩ =
    let w : Work := ⟨(probed t l x.delivery raw).setLine l (sampled (countClosed s x) raw), ns ++ probeNotices s l x.delivery raw⟩
    if (s.line l).delivery.counts.g = 0 then w.closeEmpty l
    else if x.delivery.mode = some .test then w.closeTest l
    else w.closeSale l := by
  have hgross : (sampled (countClosed s x) raw).delivery.counts.g = (s.line l).delivery.counts.g := h.gross
  have hmode : (sampled (countClosed s x) raw).delivery.mode = x.delivery.mode := rfl
  rw [Work.close, closedSample_at h.logged]
  simp only [State.setLine_line, hgross, hmode]

/-- A close with G = 0 (R69). -/
theorem closes_empty (h : Closes s l raw c t ns x) (hg : (s.line l).delivery.counts.g = 0) :
    let ln := freed (restState s l) (sampled (countClosed s x) raw)
    let s1 := probed t l x.delivery raw
    let ms := ns ++ probeNotices s l x.delivery raw
    (x.delivery.mode = some .test → exec c s = .next (State.drive { s1 with
      lines := s.lines.set l ln
      links := noticed s (ms ++ [⟨.metrology, .testResult, beBytes 1 (lineNo l) ++ [0x40]⟩] ++ lineNotices l ln true) })) ∧
    (∀ n m o, x.delivery.mode = some .sale → x.delivery.slot = some n → s.orders.slot n = .bound m o →
      exec c s = .next (State.drive { s1 with
        lines := s.lines.set l ln
        orders := { s.orders with slots := s.orders.slots.set n.val (.waiting o) n.isLt }
        journal := { s.journal with reservations := s.journal.reservations - 1 }
        links := noticed s (ms ++ lineNotices l ln true) })) := by
  intro ln s1 ms
  obtain ⟨log, e, hs1⟩ : LoggedFrom s s1 := h.logged.probed l x.delivery raw
  have hprobed : probed t l x.delivery raw = { s with faultLog := log, engine := e } := hs1
  have hclose := close_eq h
  rw [if_pos hg, hprobed] at hclose
  have hsettling : (sampled (countClosed s x) raw).state = .settling := h.settling
  have hhalt : (sampled (countClosed s x) raw).delivery.haltCause = (s.line l).delivery.haltCause := h.halt
  rw [hs1]
  refine ⟨fun hmode => ?_, fun n m o hmode hslot hbound => ?_⟩
  · rw [closeEmpty_test _ hsettling hmode, restState_closed (by exact rfl) hhalt] at hclose
    exact h.acts hclose rfl rfl
  · rw [closeEmpty_sale (s := { s with faultLog := log, engine := e }) _ hsettling hmode hslot hbound, restState_closed (by exact rfl) hhalt] at hclose
    exact h.acts hclose rfl rfl

/-- A close with G > 0 (R70, R71). -/
theorem closes_full (h : Closes s l raw c t ns x) (hg : 0 < (s.line l).delivery.counts.g) :
    let ln1 := sampled (countClosed s x) raw
    let s1 := probed t l x.delivery raw
    let ms := ns ++ probeNotices s l x.delivery raw
    let n := s.journal.nextNumber
    (x.delivery.mode = some .sale →
      let d := Delivery.finishSale l { ln1.delivery with ticketNumber := some n }
      let ln := recording { ln1 with delivery := d }
      exec c s = .next (State.drive { State.hand
        { s1 with lines := s.lines.set l ln, journal := { s.journal with nextNumber := n + 1 } }
        (.journalAppend l false n (n + 1) (d.ticket.getD [])) with
        links := noticed s (ms ++ lineNotices l ln false) })) ∧
    (∀ r, x.delivery.mode = some .test → (Delivery.finishTest l false ln1.delivery).testRun = some r →
      let ln := recording { ln1 with delivery := Delivery.finishTest l false ln1.delivery }
      exec c s = .next (State.drive { State.hand { s1 with lines := s.lines.set l ln } (.testRecord l false r) with
        links := noticed s (ms ++ lineNotices l ln false) })) := by
  intro ln1 s1 ms n
  obtain ⟨log, e, hs1⟩ : LoggedFrom s s1 := h.logged.probed l x.delivery raw
  have hprobed : probed t l x.delivery raw = { s with faultLog := log, engine := e } := hs1
  have hclose := close_eq h
  rw [if_neg (Nat.pos_iff_ne_zero.mp hg), hprobed] at hclose
  have hsettling : ln1.state = .settling := h.settling
  rw [hs1]
  refine ⟨fun hmode => ?_, fun r hmode hrecord => ?_⟩
  · intro d ln
    rw [if_neg (by rw [hmode]; decide), closeSale_at _ hsettling] at hclose
    exact h.acts hclose (State.hand_links _ _) (State.hand_restart _ _)
  · intro ln
    rw [if_pos hmode, closeTest_at _ hsettling hrecord] at hclose
    exact h.acts hclose (State.hand_links _ _) (State.hand_restart _ _)

end

/-- Settles O38: each timer closes with nothing. -/
theorem settlingEndsWithNothing : Obligations.SettlingEndsWithNothing := by
  intro l raw s hrun hst hg close e capped
  refine ⟨fun hquiet => closes_empty (closes_quiet raw hrun hst hquiet) hg, fun hcap => ?_⟩
  have h := closes_cap raw hrun hst hcap
  rw [hg] at h
  exact closes_empty h hg

/-- Settles O39: each timer closes with a volume. -/
theorem settlingEndsWithVolume : Obligations.SettlingEndsWithVolume := by
  intro l raw s hrun hst hg close e capped
  exact ⟨fun hquiet => closes_full (closes_quiet raw hrun hst hquiet) hg, fun hcap => closes_full (closes_cap raw hrun hst hcap) hg⟩

end Sys2Proof.Safety
end

section
/-! PROOF. The end of the start-up sequence (R175 steps 6 to 8): O50. -/

namespace Sys2Proof.Safety

open Sys2Proof.Machine

/-- A front of a part in STARTING transmits nothing that it did not transmit before (R194). -/
theorem sendNotices_sending {s : State} (hphase : s.restart.phase = .starting) (ns : List Notice) (link : Link) :
    ((s.sendNotices ns).front link).sending = (s.front link).sending := by
  induction ns generalizing s with
  | nil => rfl
  | cons n ns ih =>
    have hsend : ((s.send n.link ⟨.notice n.kind, noticeByte n.kind, n.body⟩).front link).sending = (s.front link).sending := by
      simp only [State.send, State.setFront, State.front, PerLink.get_set, hphase, LinkFront.place]
      split
      · rename_i hlink
        rw [enqueue_sending, hlink]
      · rfl
    exact (ih (s := s.send n.link ⟨.notice n.kind, noticeByte n.kind, n.body⟩) hphase).trans hsend

/-- START_UP goes first on a front that transmits nothing (R194). -/
theorem opened_eq {f : LinkFront} (x : TxFrame) (h : f.sending = none) :
    f.opened x = { f with request := none, lost := 0, sending := some x } := by
  simp only [LinkFront.opened, LinkFront.startNext, h]

/-- ESTOP and PUMP_FAULT found asserted: an entry each (R175 step 6, R201). -/
theorem takeInputs_eq {s : State} (hstamp : s.stamp = none) (ns : List Notice) :
    let entry := fun (code : FaultCode) => (⟨none, code, none, 0⟩ : FaultEntry)
    let s1 := if s.inputs.estop = true then s.logFault (entry .estop) else s
    let s2 := if s.inputs.pumpFault = true then s1.logFault (entry .pumpFault) else s1
    Work.takeInputs ⟨s, ns⟩ = ⟨s2, ns ++ ((if s.inputs.estop = true then faultNotices (entry .estop) else [])
      ++ if s.inputs.pumpFault = true then faultNotices (entry .pumpFault) else [])⟩ := by
  intro entry s1 s2
  have hfault : ∀ (t : State) (ms : List Notice) (c : FaultCode), t.stamp = none →
      Work.fault c none 0 ⟨t, ms⟩ = ⟨t.logFault (entry c), ms ++ faultNotices (entry c)⟩ := fun t ms c h => by
    rw [fault_eq, h]
  have hstamp1 : (s.logFault (entry .estop)).stamp = none := by rw [stamp_logFault, hstamp]
  unfold Work.takeInputs
  by_cases hestop : s.inputs.estop = true
  · by_cases hpump : s.inputs.pumpFault = true
    · simp only [s2, s1, hestop, hpump, if_true, hfault s ns .estop hstamp, State.logFault_inputs, hfault _ _ .pumpFault hstamp1,
        List.append_assoc]
    · simp only [s2, s1, hestop, hpump, if_true, hfault s ns .estop hstamp, State.logFault_inputs, if_false, Bool.false_eq_true,
        List.append_nil]
  · by_cases hpump : s.inputs.pumpFault = true
    · simp only [s2, s1, hestop, hpump, if_true, if_false, Bool.false_eq_true, hfault s ns .pumpFault hstamp, List.nil_append]
    · simp only [s2, s1, hestop, hpump, if_false, Bool.false_eq_true, List.append_nil]

theorem onlyFaultLog_iff (x : Engine) : x.onlyFaultLog = true ↔ (∀ u ∈ x.queue, u = .faultLog) ∧
    ∀ y, x.inFlight = some y → y.unit = .faultLog := by
  have hkind : ∀ u : WriteUnit, u.isFaultLog = true ↔ u = .faultLog := fun u => by cases u <;> simp [WriteUnit.isFaultLog]
  simp only [Engine.onlyFaultLog, Bool.and_eq_true, List.all_eq_true, hkind, Option.all_eq_true]

theorem LoggedFrom.logFault {s t : State} (h : LoggedFrom s t) (e : FaultEntry) : LoggedFrom s (t.logFault e) := by
  obtain ⟨log, x, rfl⟩ := h
  exact ⟨_, _, logFault_form _ e⟩

/-- Settles O50: the sequence ends when its units have completed. -/
theorem startUpEndsInRunning : Obligations.StartUpEndsInRunning := by
  intro s ready
  have hready : (s.restart.phase = .starting ∧ s.engine.onlyFaultLog = true) ↔ ready := by
    rw [onlyFaultLog_iff]
  refine ⟨fun hnot => event_nothing (if_neg (mt hready.mp hnot)), fun h hsending => ?_⟩
  intro ln fresh entry s1 s2 waiting code frame opened
  have hfresh : s.settleBlocks = fresh := by
    have hline : ∀ l, s.restartedLine l = ln l := fun l => by
      simp only [State.restartedLine, ln, State.lineSound, Bool.and_eq_true]
    simp only [State.settleBlocks, hline]
    rfl
  have hstamp : fresh.stamp = none := by
    simp only [State.stamp, fresh, h.1]
    rfl
  obtain ⟨log, x, hs2⟩ : LoggedFrom fresh s2 := by
    have h1 : LoggedFrom fresh s1 := by
      unfold s1
      split
      · exact loggedFrom_logFault fresh _
      · exact loggedFrom_refl fresh
    unfold s2
    split
    · exact h1.logFault _
    · exact h1
  have hinputs : Work.takeInputs ⟨fresh, []⟩ = ⟨s2, (if s.inputs.estop = true then faultNotices (entry .estop) else [])
      ++ if s.inputs.pumpFault = true then faultNotices (entry .pumpFault) else []⟩ := takeInputs_eq hstamp []
  have hlinks : s2.links = s.links := by rw [hs2]
  have hrestart : s2.restart = s.restart := by rw [hs2]
  have hopened : ∀ link, (waiting.get link).opened frame = opened (waiting.get link) := fun link =>
    opened_eq frame ((sendNotices_sending h.1 _ link).trans (hsending link))
  have hframe : ∀ t : State, t.restart = s.restart → t.startUpFrame = frame := fun t ht => by
    simp only [State.startUpFrame, ht, frame, code]
    cases s.restart.cause <;> rfl
  have hwork : Work.finishStartUp ⟨s, []⟩ = ⟨State.openLinks { s2 with links := waiting }, []⟩ := by
    rw [Work.finishStartUp, Work.mapSt, hfresh]
    dsimp only
    rw [hinputs]
    dsimp only
    rw [sendNotices_eta, sendNotices_links_congr hlinks (congrArg _ hrestart)]
    rfl
  have hphase := hready.mpr h
  have hevent : exec .startUpFinish s = .next (State.drive (State.openLinks { s2 with links := waiting })) := by
    refine (event_next _ s).trans ?_
    rw [if_pos hphase, hwork]
    rfl
  rw [hevent, State.openLinks, hframe { s2 with links := waiting } hrestart]
  dsimp only
  have hmap : waiting.map (LinkFront.opened frame) = ⟨opened waiting.cab, opened waiting.reel, opened waiting.metrology⟩ := by
    have hcab := hopened .cab
    have hreel := hopened .reel
    have hmetrology := hopened .metrology
    simp only [PerLink.get] at hcab hreel hmetrology
    rw [PerLink.map, hcab, hreel, hmetrology]
  rw [hmap, hrestart]

end Sys2Proof.Safety
end

section
/-! PROOF. The state after reset (R1, R23, R75, R95, R127, R148, R171, R200): O3 and O60. -/

namespace Sys2Proof.Safety

open Sys2Proof.Machine

/-- The first start-up, evaluated (log 1). -/
theorem firstStartUp_ends :
    (match runCommands [.startUpSequence, .restartUpdateCompletion, .startUpFinish] State.manufactured with
      | .next t => decide (t = State.reset)
      | .fault _ | .refused _ => false) = true := by decide +kernel

theorem runCommands_firstStartUp :
    runCommands [.startUpSequence, .restartUpdateCompletion, .startUpFinish] State.manufactured = .next State.reset := by
  have h := firstStartUp_ends
  split at h
  · rename_i t ht
    rw [ht, of_decide_eq_true h]
  · cases h
  · cases h

theorem reset_line (l : LineId) : State.reset.line l = freshLine .unverified 0 0 := by
  cases l <;> rfl

theorem reset_front (link : Link) : State.reset.front link = freshFront := by
  cases link <;> rfl

theorem reset_slot (n : SlotNo) : State.reset.orders.slot n = .free := Vector.getElem_replicate _

theorem reset_plan (n : PlanNo) : State.reset.plan n = [] := Vector.getElem_replicate _

/-- Settles O3: the first start-up, and the items one by one. -/
theorem resetIsTheFirstStartUp : Obligations.ResetIsTheFirstStartUp := by
  refine ⟨runCommands_firstStartUp, fun l => ?_, rfl, rfl, rfl, reset_slot, rfl, reset_plan, rfl, rfl, fun r => ?_, rfl, rfl, rfl, rfl,
    fun p => ?_, rfl, rfl, rfl, rfl, rfl, rfl, rfl, fun link => ?_⟩
  · rw [reset_line]
    exact ⟨rfl, rfl, rfl, rfl, rfl, rfl, rfl, rfl, rfl, rfl, rfl, rfl, rfl, rfl, rfl, rfl⟩
  · rcases r with l | ⟨l, p⟩ | p
    · cases l <;> rfl
    · cases l <;> cases p <;> rfl
    · cases p <;> rfl
  · cases p <;> rfl
  · rw [reset_front]
    exact ⟨rfl, rfl, rfl⟩

/-- A delivery record with nothing counted (R1). -/
theorem countsOk_empty : CountsOk emptyDelivery where
  gross := by decide
  split := rfl
  frame := by decide
  window := by decide
  tallies := by decide
  vcf := by decide

/-- A line as start-up leaves it (R1, R40). -/
theorem lineOk_fresh {running : Prop} {st : LineState} {totalizer unticketed : Nat} (hst : st = .idle ∨ st = .unverified)
    (ht : totalizer < totalizerWrap) (hu : unticketed < totalizerWrap) : LineOk running (freshLine st totalizer unticketed) where
  counts := countsOk_empty
  totals := ⟨ht, hu⟩
  valve _ := rfl
  timers := ⟨fun h => Bool.noConfusion h, fun h => h.elim (fun h => Bool.noConfusion h) (fun h => Bool.noConfusion h)⟩
  stay := by rcases hst with rfl | rfl <;> rfl
  openBalance _ h := by rcases hst with rfl | rfl <;> exact Bool.noConfusion h
  closeBalance h := by rcases hst with rfl | rfl <;> exact LineState.noConfusion h

theorem snapshotOk_manufactured : SnapshotOk manufacturedSnapshot where
  counts := countsOk_empty
  totals := by decide
  openBalance h := Bool.noConfusion h
  closeBalance h := LineState.noConfusion h

theorem meterInv_reset : MeterInv State.reset where
  line l := by
    rw [reset_line]
    exact lineOk_fresh (.inr rfl) (by decide) (by decide)
  held l := by cases l <;> exact snapshotOk_manufactured
  stored l := by cases l <;> exact snapshotOk_manufactured

theorem frontOk_fresh : FrontOk .running freshFront where
  room := by decide
  kept h := Phase.noConfusion h
  ended h := h.elim (fun h => Phase.noConfusion h) (fun h => Phase.noConfusion h)
  transmits _ h := Option.noConfusion rfl (heq_of_eq h)
  silent h := absurd rfl h

theorem engineOk_idle : EngineOk .running ⟨.idle, none, []⟩ where
  places := by decide
  idle _ := ⟨rfl, rfl⟩
  writing h := EngineState.noConfusion h
  ended _ := rfl
  phase := by decide

theorem buffersInv_reset : BuffersInv State.reset where
  front link := by
    rw [reset_front]
    exact frontOk_fresh
  engine := engineOk_idle
  faults := by decide
  audit := by decide
  plans n := by rw [reset_plan]; decide
  counters := by decide
  stored := by decide
  recovered := by decide
  units u h := by
    rcases h with h | ⟨x, hx, -⟩
    · exact absurd h List.not_mem_nil
    · exact absurd hx nofun
  transferred := ⟨by decide, by decide, fun x hx => absurd hx nofun⟩
  ring := by decide

/-- Settles O60: both invariants, item by item. -/
theorem invariantsHoldAfterReset : Obligations.InvariantsHoldAfterReset := ⟨meterInv_reset, buffersInv_reset⟩

end Sys2Proof.Safety
end

section
/-! PROOF. What is kept of every line: a property of a line's record that survives the changes of its delivery and of its
state survives every owner of a request, and the statement about the store and the totals. -/

namespace Sys2Proof.Safety

open Sys2Proof.Machine

/-! ## Changes of a delivery record and of a line's state -/

/-- A change of a delivery record that counts nothing and moves no totalizer of its own. -/
structure Gentle (d e : Delivery) : Prop where
  counts : CountsOk d → CountsOk e
  gross : e.counts.g = d.counts.g
  openTot : e.openTot = d.openTot
  closeTot : e.closeTot = d.closeTot

/-- The counts of a record are judged by its counts and its running VCF alone. -/
theorem countsOk_congr {d e : Delivery} (h : CountsOk d) (hcounts : e.counts = d.counts) (hvcf : e.corr.runVcf = d.corr.runVcf) :
    CountsOk e := by
  obtain ⟨hgross, hsplit, hframe, hwindow, htallies, hrange⟩ := h
  rw [← hcounts] at hgross hsplit hframe hwindow htallies
  rw [← hvcf] at hrange
  exact ⟨hgross, hsplit, hframe, hwindow, htallies, hrange⟩

/-- A change outside the counts and the running VCF. -/
theorem Gentle.of_eq {d e : Delivery} (hcounts : e.counts = d.counts) (hvcf : e.corr.runVcf = d.corr.runVcf)
    (hopen : e.openTot = d.openTot) (hclose : e.closeTot = d.closeTot) : Gentle d e :=
  ⟨fun h => countsOk_congr h hcounts hvcf, by rw [hcounts], hopen, hclose⟩

theorem Gentle.trans {d e f : Delivery} (h : Gentle d e) (k : Gentle e f) : Gentle d f :=
  ⟨k.counts ∘ h.counts, k.gross.trans h.gross, k.openTot.trans h.openTot, k.closeTot.trans h.closeTot⟩

theorem gentle_loaded (d : Delivery) : Gentle d (loaded d) := .of_eq rfl rfl rfl rfl

theorem gentle_startWindow (d : Delivery) : Gentle d d.startWindow where
  counts h := ⟨h.gross, h.split, h.frame, ⟨Nat.zero_le _, Nat.zero_le _⟩, h.tallies, h.vcf⟩
  gross := rfl
  openTot := rfl
  closeTot := rfl

/-- A property of every line's record that gentle changes of the delivery and changes of state keep: an open state is entered
from an open state alone, and RECORDING in the close alone. -/
structure KeepsLine (K : LineId → Line → Prop) : Prop where
  kept : ∀ {l ln e}, K l ln → Gentle ln.delivery e → (ln.state ≠ .flowing → e.preset.stage = ln.delivery.preset.stage) →
    K l { ln with delivery := e }
  moved : ∀ {l ln e new}, K l ln → Gentle ln.delivery e → (new.isOpen = true → ln.state.isOpen = true) → new ≠ .recording →
    K l (({ ln with delivery := e } : Line).enter new)

/-- Every line of the part has the property. -/
def Lines (K : LineId → Line → Prop) (s : State) : Prop := ∀ l, K l (s.line l)

theorem Lines.congr {K : LineId → Line → Prop} {s t : State} (h : Lines K s) (heq : t.lines = s.lines) : Lines K t := by
  intro l
  rw [State.line, heq]
  exact h l

theorem Lines.set {K : LineId → Line → Prop} {s : State} {l : LineId} {ln : Line} (h : Lines K s) (hln : K l ln) :
    Lines K (s.setLine l ln) := by
  intro m
  by_cases hm : m = l
  · subst hm
    rwa [State.setLine_line]
  · rw [State.setLine_line_ne _ _ hm]
    exact h m

theorem giveBack_lines (s : State) (l : LineId) : (s.giveBack l).lines = s.lines := by
  obtain ⟨o, j, hplain, -⟩ := giveBack_form s l
  rw [hplain]

section
variable {K : LineId → Line → Prop} (hK : KeepsLine K)
include hK

/-! ### The states that a line goes to -/

section
variable {l : LineId} {ln : Line} {e : Delivery} (h : K l ln) (he : Gentle ln.delivery e)
include h he

theorem KeepsLine.paused {c : PauseCause} (hopen : ln.state.isOpen = true) : K l (paused c { ln with delivery := e }) := by
  rw [← enter_paused]
  exact hK.moved (ln := ln) h (he.trans (.of_eq rfl rfl rfl rfl)) (fun _ => hopen) (by decide)

theorem KeepsLine.halted {c : HaltCause} (hopen : ln.state.isOpen = true) : K l (halted c { ln with delivery := e }) := by
  rw [← enter_halted]
  exact hK.moved (ln := ln) h (he.trans (.of_eq rfl rfl rfl rfl)) (fun _ => hopen) (by decide)

theorem KeepsLine.settled {c : EndCause} (hopen : ln.state.isOpen = true) : K l (settled c { ln with delivery := e }) := by
  rw [← enter_settled]
  exact hK.moved (ln := ln) h (he.trans (.of_eq rfl rfl rfl rfl)) (fun _ => hopen) (by decide)

theorem KeepsLine.flowing (hopen : ln.state.isOpen = true) : K l (flowing { ln with delivery := e }) := by
  rw [← enter_flowing]
  exact hK.moved (ln := ln) h (he.trans (gentle_startWindow e)) (fun _ => hopen) (by decide)

end

/-! ### The operations that take a line there -/

variable {w : Work} {l : LineId}

theorem KeepsLine.mapDelivery {f : Delivery → Delivery} (h : Lines K w.st) (hf : ∀ d, Gentle d (f d))
    (hstage : ∀ d, (f d).preset.stage = d.preset.stage) : Lines K (w.mapDelivery l f).st :=
  h.set (hK.kept (h l) (hf _) (fun _ => hstage _))

/-- A line that goes to IDLE or UNVERIFIED. -/
theorem KeepsLine.changeState {new : LineState} {nothing : Bool} (h : Lines K w.st)
    (hnew : new = .idle ∨ new = .unverified) : Lines K (w.changeState l new nothing).st := by
  have hopen : new.isOpen ≠ true ∧ new ≠ .recording := by rcases hnew with rfl | rfl <;> decide
  by_cases hst : (w.st.line l).state = new
  · rwa [Work.changeState, if_pos hst]
  · rw [Work.changeState_ne _ _ _ _ hst]
    exact h.set (hK.moved (ln := w.st.line l) (e := (w.st.line l).delivery) (h l) (.of_eq rfl rfl rfl rfl)
      (fun hn => absurd hn hopen.1) hopen.2)

theorem KeepsLine.pauseLine {c : PauseCause} (h : Lines K w.st) (hst : (w.st.line l).state = .flowing) :
    Lines K (w.pauseLine l c).st := by
  rw [pauseLine_eq _ _ _ (by rw [hst]; decide)]
  exact h.set (hK.paused (ln := w.st.line l) (h l) (.of_eq rfl rfl rfl rfl) (by rw [hst]; rfl))

theorem KeepsLine.haltLine {c : HaltCause} (h : Lines K w.st)
    (hst : (w.st.line l).state = .armed ∨ (w.st.line l).state = .flowing ∨ (w.st.line l).state = .paused) :
    Lines K (w.haltLine l c).st := by
  have hopen : (w.st.line l).state.isOpen = true ∧ (w.st.line l).state ≠ .halted := by
    rcases hst with hst | hst | hst <;> rw [hst] <;> decide
  rw [haltLine_eq _ _ _ hopen.2]
  exact h.set (hK.halted (ln := w.st.line l) (h l) (.of_eq rfl rfl rfl rfl) hopen.1)

theorem KeepsLine.settleLine {c : EndCause} (h : Lines K w.st) (hopen : (w.st.line l).state.isOpen = true)
    (hst : (w.st.line l).state ≠ .settling) : Lines K (w.settleLine l c).st := by
  rw [settleLine_eq _ _ _ hst]
  exact h.set (hK.settled (ln := w.st.line l) (h l) (.of_eq rfl rfl rfl rfl) hopen)

theorem KeepsLine.loadAndGo (h : Lines K w.st) (hst : (w.st.line l).state = .armed ∨ (w.st.line l).state = .paused) :
    Lines K (w.loadAndGo l).st := by
  have hopen : (w.st.line l).state.isOpen = true ∧ (w.st.line l).state ≠ .settling ∧ (w.st.line l).state ≠ .flowing := by
    rcases hst with hst | hst <;> rw [hst] <;> decide
  rw [loadAndGo_eq l w hopen.2.1 hopen.2.2]
  refine h.set ?_
  dsimp only
  split
  · exact hK.settled (h l) (gentle_loaded _) hopen.1
  · exact hK.flowing (h l) (gentle_loaded (w.st.line l).delivery) hopen.1

theorem KeepsLine.release (h : Lines K w.st) : Lines K (w.release l).st := by
  have hback : Lines K (w.mapSt (fun s => s.giveBack l)).st := h.congr (giveBack_lines _ _)
  have hreleased : ∀ s : State, s.releasedState l = .idle ∨ s.releasedState l = .unverified := fun s => by
    rw [releasedState_eq]
    split
    · exact .inl rfl
    · exact .inr rfl
  exact hK.changeState (hK.mapDelivery hback (fun _ => .of_eq rfl rfl rfl rfl) (fun _ => rfl)) (hreleased _)

theorem KeepsLine.withdrawIdle (h : Lines K w.st) : Lines K (w.withdrawIdle l).st := by
  unfold Work.withdrawIdle
  split
  · exact hK.changeState h (.inr rfl)
  · exact h

theorem KeepsLine.restore (h : Lines K w.st) : Lines K (w.restore l).st := by
  unfold Work.restore
  split
  · exact hK.changeState h (.inl rfl)
  · exact h

theorem KeepsLine.applyAffected {affected : List RecordId} (h : Lines K w.st) : Lines K (w.applyAffected affected l).st := by
  unfold Work.applyAffected
  dsimp only
  split
  · exact h
  · split
    next hst => exact hK.haltLine h (.inl hst)
    next hst => exact hK.haltLine h (.inr (.inl hst))
    next hst => exact hK.haltLine h (.inr (.inr hst))
    iterate 2 exact hK.mapDelivery h (fun _ => .of_eq rfl rfl rfl rfl) (fun _ => rfl)
    iterate 3 exact h

omit hK in
theorem lines_fault {c : FaultCode} {m : Option LineId} {d : BitVec 32} (h : Lines K w.st) : Lines K (w.fault c m d).st :=
  h.congr (State.logFault_lines _ _)

omit hK in
theorem lines_loadAll (h : Lines K w.st) : Lines K w.loadAll.st := by
  refine h.congr ?_
  obtain ⟨s, ns⟩ := w
  rw [loadAll_eq]
  dsimp only
  rw [logged_form]

theorem KeepsLine.failedSweep {bad : List RecordId} (h : Lines K w.st) : Lines K (w.failedSweep bad).st :=
  hK.withdrawIdle (hK.withdrawIdle (hK.applyAffected (hK.applyAffected (lines_loadAll (lines_fault h)))))

/-! ### The owners of the requests -/

theorem KeepsLine.goFrom {st : LineState} {reply : Work → Reply} (h : Lines K w.st) (hst : st = .armed ∨ st = .paused) :
    Lines K (goFrom st l reply w).2.st := by
  unfold Machine.goFrom
  split
  · exact h
  next hfrom =>
    split
    · exact h
    · rw [← not_ne_iff.mp hfrom] at hst
      exact hK.loadAndGo h hst

theorem KeepsLine.endLine {c : EndCause} (h : Lines K w.st) : Lines K (endLine c l w).2.st := by
  unfold Machine.endLine
  split
  iterate 4 exact h
  next hst =>
    split
    · exact hK.release h
    · exact hK.settleLine h (by rw [hst]; rfl) (by rw [hst]; decide)
  iterate 3 next hst => exact hK.settleLine h (by rw [hst]; rfl) (by rw [hst]; decide)

/-- Every IDLE line may be armed (R46, R50). -/
def Arms (K : LineId → Line → Prop) (s : State) : Prop :=
  ∀ l mode slot p x i t amount, (s.line l).state = .idle →
    K l (armed (armedDelivery mode slot p x i t (s.line l).totalizer amount) (s.line l))

theorem KeepsLine.armWaiting {n : SlotNo} {o : Order} (h : Lines K w.st) (harm : Arms K w.st)
    (hst : (w.st.line l).state = .idle) : Lines K (armWaiting l n o w).2.st := by
  unfold Machine.armWaiting
  dsimp only
  split
  · exact h
  · split
    · exact h
    · split
      · dsimp only
        exact hK.failedSweep h
      · split
        · exact h
        · split
          next => exact h
          next j _ =>
            rw [acceptArm_eq l n o j w (by rw [hst]; decide), saleDelivery_eq]
            exact (h.set (harm l _ _ _ _ _ _ _ hst)).congr rfl

theorem KeepsLine.ownArm {body : List Byte} (h : Lines K w.st) (harm : Arms K w.st) : Lines K (ownArm body w).2.st := by
  unfold Machine.ownArm
  split
  · exact h
  · split
    · exact h
    next hst =>
      repeat' split
      iterate 4 exact h
      exact hK.armWaiting h harm (not_ne_iff.mp hst)

theorem KeepsLine.ownArmTest {body : List Byte} (h : Lines K w.st) (harm : Arms K w.st) :
    Lines K (ownArmTest body w).2.st := by
  unfold Machine.ownArmTest armTestIdle
  dsimp only
  split
  · exact h
  next l p amount _ =>
    split
    · exact h
    next hst =>
      repeat' split
      iterate 4 exact h
      · dsimp only
        exact hK.failedSweep h
      · rw [acceptArmTest_eq l p amount w (by rw [not_ne_iff.mp hst]; decide), testDelivery_eq]
        exact h.set (harm l _ _ _ _ _ _ _ (not_ne_iff.mp hst))

theorem KeepsLine.ownPause {body : List Byte} (h : Lines K w.st) : Lines K (ownPause body w).2.st := by
  unfold Machine.ownPause
  split
  · exact h
  · split
    · exact h
    next hst => exact hK.pauseLine h (not_ne_iff.mp hst)

theorem KeepsLine.ownAdd {body : List Byte} (h : Lines K w.st) : Lines K (ownAdd body w).2.st := by
  unfold Machine.ownAdd
  dsimp only
  repeat' split
  iterate 3 exact h
  exact hK.mapDelivery h (fun _ => .of_eq rfl rfl rfl rfl) (fun _ => rfl)

theorem KeepsLine.ownDisarm {body : List Byte} (h : Lines K w.st) : Lines K (ownDisarm body w).2.st := by
  unfold Machine.ownDisarm
  repeat' split
  · exact h
  · exact hK.release h
  · exact h

end

/-! ## Requests that touch no line -/

/-- A request kind whose owner may change a line (R42, R49, R166). -/
def touchesLines : RequestKind → Bool
  | .arm | .armTest | .start | .pause | .resume | .add | .endDelivery | .stopLine | .disarm => true
  | _ => false

/-- The other owners leave the lines alone. -/
theorem owner_lines {k : RequestKind} (hk : touchesLines k = false) (link : Link) (body : List Byte) (w : Work) :
    (owner k link body w).2.st.lines = w.st.lines := by
  cases k with
  | arm | armTest | start | pause | resume | add | endDelivery | stopLine | disarm => exact Bool.noConfusion hk
  | readOrders => exact congrArg (·.st.lines) (ownReadOrders_work body w)
  | readPlan => exact congrArg (·.st.lines) (ownReadPlan_work body w)
  | readTicket => exact congrArg (·.st.lines) (ownReadTicket_work body w)
  | readFaultLog => exact congrArg (·.st.lines) (ownReadFaultLog_work body w)
  | readTotals => exact congrArg (·.st.lines) (ownReadTotals_work body w)
  | readAudit => exact congrArg (·.st.lines) (ownReadAudit_work body w)
  | searchOrder => exact congrArg (·.st.lines) (ownSearchOrder_work body w)
  | readRecord => exact congrArg (·.st.lines) (ownReadRecord_work body w)
  | readChecksum => exact congrArg (·.st.lines) (ownReadChecksum_work body w)
  | loadOrder => change (ownLoadOrder body w).2.st.lines = _; unfold ownLoadOrder; (repeat' split) <;> rfl
  | withdrawOrder => change (ownWithdrawOrder body w).2.st.lines = _; unfold ownWithdrawOrder; (repeat' split) <;> rfl
  | writePlan => change (ownWritePlan body w).2.st.lines = _; unfold ownWritePlan; (repeat' split) <;> rfl
  | writeProductSettings =>
    change (ownWriteProductSettings body w).2.st.lines = _; unfold ownWriteProductSettings; (repeat' split) <;> rfl
  | setClock => change (ownSetClock body w).2.st.lines = _; unfold ownSetClock; (repeat' split) <;> rfl
  | ackTickets => change (ownAckTickets body w).2.st.lines = _; unfold ownAckTickets; dsimp only; (repeat' split) <;> rfl
  | readStatus => change (ownReadStatus link body w).2.st.lines = _; unfold ownReadStatus; (repeat' split) <;> rfl
  | readLine => change (ownReadLine link body w).2.st.lines = _; unfold ownReadLine; (repeat' split) <;> rfl
  | writeRecord =>
    change (ownWriteRecord body w).2.st.lines = _
    unfold ownWriteRecord
    repeat' split
    iterate 5 rfl
    exact State.hand_lines _ _
  | clearFaultLog =>
    change (ownClearFaultLog body w).2.st.lines = _
    unfold ownClearFaultLog
    repeat' split
    iterate 2 rfl
    exact State.placeFree_lines _

section
variable {K : LineId → Line → Prop} (hK : KeepsLine K)
include hK

/-- Every owner keeps what its line keeps (R188). -/
theorem KeepsLine.owner (k : RequestKind) {link : Link} {body : List Byte} {w : Work} (h : Lines K w.st)
    (harm : Arms K w.st) : Lines K (owner k link body w).2.st := by
  by_cases hk : touchesLines k = false
  · exact h.congr (owner_lines hk link body w)
  cases k with
  | arm => exact hK.ownArm h harm
  | armTest => exact hK.ownArmTest h harm
  | pause => exact hK.ownPause h
  | add => exact hK.ownAdd h
  | disarm => exact hK.ownDisarm h
  | start =>
    change Lines K (ownStart body w).2.st
    unfold ownStart
    split
    · exact h
    · exact hK.goFrom h (.inl rfl)
  | resume =>
    change Lines K (ownResume body w).2.st
    unfold ownResume
    split
    · exact h
    · exact hK.goFrom h (.inr rfl)
  | endDelivery =>
    change Lines K (ownEndDelivery body w).2.st
    unfold ownEndDelivery
    split
    · exact h
    · exact hK.endLine h
  | stopLine =>
    change Lines K (ownStopLine body w).2.st
    unfold ownStopLine
    split
    · exact h
    · exact hK.endLine h
  | _ => exact absurd rfl hk

end

end Sys2Proof.Safety
end

section
/-! PROOF. What a request does to the part as a whole, and the statement about the store and the totals. -/

namespace Sys2Proof.Safety

open Sys2Proof.Machine

/-! ## A request from its front to its owner -/

section
variable {P Q : State → Prop} (hP : ∀ s x, P s → P { s with links := x }) (hQ : ∀ s x, Q s → Q { s with links := x })
  (hPQ : ∀ s, P s → Q s) {s : State}
include hP hQ hPQ

/-- A request, however the front judges it (R189): what holds before it leads to what the owner's work makes of it. -/
theorem request_leads {link : Link} {k : RequestKind} {body : List Byte} {owner : Work → Reply × Work}
    (ho : ∀ w, P w.st → Q (owner w).2.st) (h : P s) :
    ∃ u, request link k body owner s = .next (State.drive u) ∧ Q u := by
  have hhunt : P (s.toHunt link) := hP _ _ h
  unfold Machine.request
  dsimp only
  split
  · exact ⟨_, rfl, hPQ _ hhunt⟩
  · split
    · exact ⟨_, rfl, hPQ _ (hP _ _ hhunt)⟩
    · split
      · exact ⟨_, rfl, hPQ _ (hP _ _ hhunt)⟩
      · exact ⟨_, rfl, sendNotices_eta _ _ ▸ hQ _ _ (hQ _ _ (ho ⟨_, []⟩ (hP _ _ hhunt)))⟩

theorem takeFrame_leads (howner : ∀ k link body w, P w.st → Q (owner k link body w).2.st) {link : Link} {kind : Byte}
    {body : List Byte} (h : P s) : ∃ u, takeFrame link kind body s = .next (State.drive u) ∧ Q u := by
  unfold Machine.takeFrame
  split
  next k _ => exact request_leads hP hQ hPQ (fun w => howner k link body w) h
  next =>
    refine ⟨_, rfl, hPQ _ ?_⟩
    have hhunt : P (s.toHunt link) := hP _ _ h
    unfold Machine.unknownFrame
    dsimp only
    repeat' split
    · exact hhunt
    · exact hP _ _ hhunt
    · exact hP _ _ hhunt

/-- Every request command, and a received byte (R187 to R189). -/
theorem exec_request_leads (howner : ∀ k link body w, P w.st → Q (owner k link body w).2.st) {c : Instr}
    (hc : isRequest c = true) (h : P s) : ∃ u, exec c s = .next (State.drive u) ∧ Q u := by
  have hrequest : ∀ k link body, ∃ u, exec (requestCommand k link body) s = .next (State.drive u) ∧ Q u := by
    intro k link body
    rw [exec_requestCommand]
    exact request_leads hP hQ hPQ (fun w => howner k link body w) h
  cases c with
  | loadOrder link body => exact hrequest .loadOrder link body
  | withdrawOrder link body => exact hrequest .withdrawOrder link body
  | readOrders link body => exact hrequest .readOrders link body
  | writePlan link body => exact hrequest .writePlan link body
  | readPlan link body => exact hrequest .readPlan link body
  | writeProductSettings link body => exact hrequest .writeProductSettings link body
  | setClock link body => exact hrequest .setClock link body
  | readTicket link body => exact hrequest .readTicket link body
  | ackTickets link body => exact hrequest .ackTickets link body
  | stopLine link body => exact hrequest .stopLine link body
  | readStatus link body => exact hrequest .readStatus link body
  | readFaultLog link body => exact hrequest .readFaultLog link body
  | readTotals link body => exact hrequest .readTotals link body
  | readAudit link body => exact hrequest .readAudit link body
  | searchOrder link body => exact hrequest .searchOrder link body
  | arm link body => exact hrequest .arm link body
  | start link body => exact hrequest .start link body
  | pause link body => exact hrequest .pause link body
  | resume link body => exact hrequest .resume link body
  | add link body => exact hrequest .add link body
  | endDelivery link body => exact hrequest .endDelivery link body
  | disarm link body => exact hrequest .disarm link body
  | readLine link body => exact hrequest .readLine link body
  | readRecord link body => exact hrequest .readRecord link body
  | writeRecord link body => exact hrequest .writeRecord link body
  | armTest link body => exact hrequest .armTest link body
  | clearFaultLog link body => exact hrequest .clearFaultLog link body
  | readChecksum link body => exact hrequest .readChecksum link body
  | unknownRequest link kind body => exact takeFrame_leads hP hQ hPQ howner h
  | linkByteReceived link byte =>
    change ∃ u, execLinkByteReceived _ _ s = _ ∧ _
    unfold execLinkByteReceived
    split
    next rx _ =>
      refine ⟨_, event_next _ s, ?_⟩
      rw [sendNotices_eta]
      exact hPQ _ (hP _ _ (hP _ _ h))
    · exact takeFrame_leads hP hQ hPQ howner (hP _ _ h)
  | _ => exact Bool.noConfusion hc

end

/-! ## Settled: the store and the totals -/

theorem survives_store (x : Store) : Survives (fun s => s.store = x) where
  lines _ _ h := h
  cal _ _ h := h
  slots _ _ h := h
  journal _ _ _ _ h := h
  log _ _ h := (State.logFault_store _ _).trans h
  hand _ _ _ h := (State.hand_store _ _).trans h
  lost _ _ h := h
  front _ _ _ _ h := h
  outputs _ _ _ h := h
  inputs _ _ _ h := h
  plan _ _ _ _ h := h
  counter _ h := h
  clock _ _ _ _ h := h
  cleared _ h := (State.placeFree_store _).trans h

/-- A command that neither completes a unit, nor saves, nor damages what is stored leaves the store alone. -/
theorem exec_store {c : Instr} (s : State) (hc : writesStore c = false) :
    ∃ u, exec c s = .next (State.drive u) ∧ u.store = s.store := by
  have hP := survives_store s.store
  by_cases hcalm : isCalm c = true
  · exact hP.exec hcalm rfl
  cases c with
  | powerFailWarning =>
    change ∃ u, execPowerFailWarning s = _ ∧ _
    unfold execPowerFailWarning
    refine hP.eventSt (fun t ht => ?_) rfl
    unfold State.takeRestart
    split <;> exact ht
  | resetAsserted =>
    change ∃ u, execResetAsserted s = _ ∧ _
    unfold execResetAsserted
    refine hP.eventSt (fun t ht => ?_) rfl
    unfold State.takeRestart
    split <;> exact ht
  | startUpSequence =>
    change ∃ u, execStartUpSequence s = _ ∧ _
    unfold execStartUpSequence
    refine hP.event (fun w hw => ite_keeps (P := fun t => t.store = s.store) ?_ hw) rfl
    refine startUp_keeps hP.toStable hw (fun _ h => h) (fun t ht => (RecoveryKeeps.recover t).store.trans ht) ?_
    exact fun t _ ht => (State.hand_store _ _).trans ht
  | startUpFinish =>
    change ∃ u, execStartUpFinish s = _ ∧ _
    unfold execStartUpFinish
    refine hP.event (fun w hw => ite_keeps (P := fun t => t.store = s.store) ?_ hw) rfl
    have hinputs : (w.mapSt State.settleBlocks).takeInputs.st.store = s.store := hP.takeInputs hw
    exact (State.sendNotices_store _ _).trans hinputs
  | restartSaveWritten | journalAppendCompletion | calibrationWriteCompletion | testRecordCompletion | restartUpdateCompletion
  | faultLogWriteCompletion | storedTicketDamage | storedCalibrationDamage => exact Bool.noConfusion hc
  | _ => exact absurd rfl hcalm

/-- The totals of a line as they were, and the count of a delivery that it held. -/
def KeepsTotals (s : State) (l : LineId) (ln : Line) : Prop :=
  ln.totalizer = (s.line l).totalizer ∧ ln.unticketed = (s.line l).unticketed
    ∧ ((s.line l).state ≠ .idle → ln.delivery.counts.g = (s.line l).delivery.counts.g)

theorem keepsTotals (s : State) : KeepsLine (KeepsTotals s) where
  kept h he _ := ⟨h.1, h.2.1, fun hst => he.gross.trans (h.2.2 hst)⟩
  moved h he _ _ := ⟨h.1, h.2.1, fun hst => he.gross.trans (h.2.2 hst)⟩

/-- Settles O56: the store by the commands that write it, the totals by the owners, of which ARM and ARM_TEST alone begin a
delivery, on an IDLE line. -/
theorem storeAndTotalsAreNotCommanded : Obligations.StoreAndTotalsAreNotCommanded := by
  intro c s t hexec
  refine ⟨fun hc => ?_, fun hc => ?_⟩
  · obtain ⟨u, hu, hstore⟩ := exec_store s hc
    cases hu.symm.trans hexec
    exact hstore
  · obtain ⟨u, hu, htotals⟩ := exec_request_leads (P := fun u => u.lines = s.lines) (Q := Lines (KeepsTotals s))
      (fun _ _ h => h) (fun _ _ h => h.congr rfl)
      (fun u h l => by rw [State.line, h]; exact ⟨rfl, rfl, fun _ => rfl⟩)
      (fun k link body w h => (keepsTotals s).owner k
        (fun l => by rw [State.line, h]; exact ⟨rfl, rfl, fun _ => rfl⟩)
        (fun l _ _ _ _ _ _ _ hst => by
          rw [State.line, h] at hst ⊢
          exact ⟨rfl, rfl, fun hne => absurd hst hne⟩))
      hc (s := s) rfl
    cases hu.symm.trans hexec
    intro l
    rw [State.drive_line]
    exact htotals l

end Sys2Proof.Safety
end

section
/-! PROOF. The metering and valve invariant of a line: the words that change a line's record, and the controllers' work. -/

namespace Sys2Proof.Safety

open Sys2Proof.Machine

/-! ## A line's record changed -/

section
variable {R : Prop} {ln : Line} {e : Delivery}

/-- A change of the delivery record of a line in its state. -/
theorem LineOk.kept (h : LineOk R ln) (hcounts : CountsOk e) (hgross : e.counts.g = ln.delivery.counts.g)
    (hopenTot : e.openTot = ln.delivery.openTot) (hcloseTot : ln.state = .recording → e.closeTot = ln.delivery.closeTot)
    (hstage : ln.state ≠ .flowing → e.preset.stage = ln.delivery.preset.stage) : LineOk R { ln with delivery := e } where
  counts := hcounts
  totals := h.totals
  valve hst := (hstage hst).trans (h.valve hst)
  timers := h.timers
  stay := h.stay
  openBalance hrun hopen := by
    have hbalance := h.openBalance hrun hopen
    rwa [balances, ← hgross, ← hopenTot] at hbalance
  closeBalance hst := by
    have hbalance := h.closeBalance hst
    rwa [balances, ← hgross, ← hopenTot, ← hcloseTot hst] at hbalance

/-- A line that enters a state with a changed delivery record. -/
theorem LineOk.moved {new : LineState} (h : LineOk R ln) (hcounts : CountsOk e) (hgross : e.counts.g = ln.delivery.counts.g)
    (hopenTot : e.openTot = ln.delivery.openTot) (hopen : new.isOpen = true → ln.state.isOpen = true)
    (hclose : new = .recording → balances e e.closeTot) : LineOk R (({ ln with delivery := e } : Line).enter new) where
  counts := countsOk_congr hcounts rfl rfl
  totals := h.totals
  valve hst := if_neg hst
  timers := by
    refine ⟨fun hwindow => eq_of_beq hwindow, fun hquiet => ?_⟩
    rcases hquiet with hquiet | hquiet <;> exact eq_of_beq hquiet
  stay := by
    change (ln.stayOpen || (new.isUnticketed && !ln.state.isUnticketed)) = new.isUnticketed
    rw [h.stay]
    cases hnew : new.isUnticketed
    · have hnot : ln.state.isUnticketed = false := by
        have hold := hopen (by cases new <;> first | rfl | exact Bool.noConfusion hnew)
        cases hst : ln.state <;> rw [hst] at hold <;> first | rfl | exact Bool.noConfusion hold
      rw [hnot]
      rfl
    · cases ln.state.isUnticketed <;> rfl
  openBalance hrun hnew := by
    have hbalance := h.openBalance hrun (hopen hnew)
    rwa [balances, ← hgross, ← hopenTot] at hbalance
  closeBalance hnew := hclose hnew

end

theorem keepsLine_lineOk (R : Prop) : KeepsLine (fun _ => LineOk R) where
  kept h he hstage := h.kept (he.counts h.counts) he.gross he.openTot (fun _ => he.closeTot) hstage
  moved h he hopen hrec := h.moved (he.counts h.counts) he.gross he.openTot hopen (fun hnew => absurd hnew hrec)

/-! ## Samples and windows -/

/-- The VCF of a delivery without a temperature (R33). -/
theorem vcf_unset : 900000 ≤ 1000000 ∧ 1000000 ≤ 1100000 := by decide

/-- Weighting moves Gp into Gs and recomputes the VCF (R29, R33). -/
theorem gentle_weight (d : Delivery) (used : Int) : Gentle d (d.weight used) := by
  have hcounts : (d.weight used).counts = { d.counts with gs := (d.counts.gs + d.counts.gp) % grossWrap, gp := 0 } := by
    unfold Delivery.weight Delivery.recompute
    split <;> rfl
  have hvcf : 900000 ≤ (d.weight used).corr.runVcf ∧ (d.weight used).corr.runVcf ≤ 1100000 := by
    unfold Delivery.weight Delivery.recompute
    split
    · exact vcf_unset
    · exact vcfOf_range _ _
  have htotals : (d.weight used).openTot = d.openTot ∧ (d.weight used).closeTot = d.closeTot := by
    unfold Delivery.weight Delivery.recompute
    split <;> exact ⟨rfl, rfl⟩
  refine ⟨fun h => ?_, by rw [hcounts], htotals.1, htotals.2⟩
  obtain ⟨hgross, hsplit, hframe, hwindow, htallies, -⟩ := h
  have hpos : 0 < grossWrap := by decide
  refine ⟨?_, ?_, ?_, ?_, ?_, hvcf⟩ <;> rw [hcounts]
  · exact ⟨hgross.1, hpos, Nat.mod_lt _ hpos⟩
  · rw [Nat.add_zero, Nat.mod_mod, hsplit]
  · exact hframe
  · exact hwindow
  · exact htallies

theorem weight_preset (d : Delivery) (used : Int) : (d.weight used).preset = d.preset := by
  unfold Delivery.weight Delivery.recompute
  split <;> rfl

theorem gentle_sample (d : Delivery) (t : Int) : Gentle d (d.sample t) := by
  unfold Delivery.sample
  split
  · exact Gentle.trans (e := { d with corr := { d.corr with lastValid := some t } }) (.of_eq rfl rfl rfl rfl) (gentle_weight _ t)
  · exact Gentle.trans (e := { d with flags := { d.flags with
      tempSubst := d.flags.tempSubst || decide (0 < d.counts.gp), probeFault := true } })
      (.of_eq rfl rfl rfl rfl) (gentle_weight _ _)

theorem sample_preset (d : Delivery) (t : Int) : (d.sample t).preset = d.preset := by
  unfold Delivery.sample
  split <;> exact weight_preset _ _

theorem gentle_recoverySample (d : Delivery) : Gentle d d.recoverySample := by
  unfold Delivery.recoverySample
  split
  · exact gentle_weight d _
  · exact Gentle.trans (e := { d with flags := { d.flags with tempSubst := d.flags.tempSubst || decide (0 < d.counts.gp) } })
      (.of_eq rfl rfl rfl rfl) (gentle_weight _ _)

/-- Steps 1 to 3 of an expiry: at most two strikes (R14). -/
theorem gentle_judgeWindow (d : Delivery) : Gentle d d.judgeWindow where
  counts h := by
    have hstrikes : d.nextStrikes ≤ 2 := by
      unfold Delivery.nextStrikes
      split
      · rw [bump_eq]
        exact Nat.min_le_left _ _
      · exact Nat.zero_le _
    exact ⟨h.gross, h.split, h.frame, h.window, ⟨hstrikes, h.tallies.2⟩, h.vcf⟩
  gross := rfl
  openTot := rfl
  closeTot := rfl

theorem gentle_clearWindow (d : Delivery) : Gentle d d.clearWindow where
  counts h := ⟨h.gross, h.split, h.frame, ⟨Nat.zero_le _, Nat.zero_le _⟩, h.tallies, h.vcf⟩
  gross := rfl
  openTot := rfl
  closeTot := rfl

/-! ## Pulses -/

/-- A count of a delivery record that is no part of G. -/
theorem gentle_countA (d : Delivery) : Gentle d d.countA where
  counts h := ⟨h.gross, h.split, h.frame, ⟨by rw [countA_eq]; exact Nat.min_le_left _ _, h.window.2⟩, h.tallies, h.vcf⟩
  gross := rfl
  openTot := rfl
  closeTot := rfl

theorem gentle_countB (d : Delivery) : Gentle d d.countB where
  counts h := by
    refine ⟨h.gross, h.split, h.frame, ⟨h.window.1, ?_⟩, h.tallies, h.vcf⟩
    change bump countLimit d.counts.nB ≤ 65535
    rw [bump_eq]
    exact Nat.min_le_left _ _
  gross := rfl
  openTot := rfl
  closeTot := rfl

theorem gentle_countCreep (d : Delivery) : Gentle d d.countCreep where
  counts h := ⟨h.gross, h.split, h.frame, h.window, ⟨h.tallies.1, by rw [countCreep_eq]; exact Nat.min_le_left _ _⟩, h.vcf⟩
  gross := rfl
  openTot := rfl
  closeTot := rfl

theorem advanced_le {p : Nat} (h : p ≤ 16) : advanced p ≤ 16 := by
  unfold advanced
  split <;> omega

/-- A pulse counts into G, into Gp and into the totalizer alike (R5, R20). -/
theorem LineOk.counted {R : Prop} {ln : Line} (h : LineOk R ln) (hst : ln.state.isOpen = true) : LineOk R (counted ln) where
  counts := by
    obtain ⟨⟨hg, hgp, hgs⟩, hsplit, hframe, hwindow, htallies, hvcf⟩ := h.counts
    refine ⟨⟨Nat.mod_lt _ (by decide), Nat.mod_lt _ (by decide), hgs⟩, ?_, advanced_le hframe, hwindow, htallies, hvcf⟩
    unfold Safety.counted
    dsimp only
    unfold grossWrap at hsplit ⊢
    rw [hsplit]
    omega
  totals := ⟨Nat.mod_lt _ (by decide), h.totals.2⟩
  valve := h.valve
  timers := h.timers
  stay := h.stay
  openBalance hrun hopen := by
    have hbalance := h.openBalance hrun hopen
    unfold balances totalizerWrap at hbalance ⊢
    unfold Safety.counted
    dsimp only
    omega
  closeBalance hrec := by
    rw [show ln.state = .recording from hrec] at hst
    exact Bool.noConfusion hst

/-- An unticketed pulse moves the totalizer of a line without an open delivery (R18). -/
theorem LineOk.unticketedCounted {R : Prop} {ln : Line} {f : Factor} (h : LineOk R ln) (hst : ln.state.isOpen = false) :
    LineOk R (unticketedCounted f ln) where
  counts := ⟨h.counts.gross, h.counts.split, advanced_le h.counts.frame, h.counts.window, h.counts.tallies, h.counts.vcf⟩
  totals := ⟨Nat.mod_lt _ (by decide), Nat.mod_lt _ (by decide)⟩
  valve := h.valve
  timers := h.timers
  stay := h.stay
  openBalance _ hopen := absurd (hst.symm.trans hopen) Bool.false_ne_true
  closeBalance := h.closeBalance

end Sys2Proof.Safety
end

section
/-! PROOF. The metering and valve invariant of every line through the controllers' work. -/

namespace Sys2Proof.Safety

open Sys2Proof.Machine

/-- Every line of the part is well (R1, R8, R10, R19, R20, R66, R76). -/
abbrev LinesOk (R : Prop) (s : State) : Prop := Lines (fun _ => LineOk R) s

/-! ## Pulses -/

theorem gentle_slowed (d : Delivery) : Gentle d d.slowed := by
  unfold Delivery.slowed
  split <;> exact .of_eq rfl rfl rfl rfl

section
variable {R : Prop} {ln : Line} (h : LineOk R ln)
include h

theorem LineOk.flowCounted (hst : ln.state.isOpen = true) : LineOk R (flowCounted ln) := by
  have hcount := (keepsLine_lineOk R).kept (l := .a) (h.counted hst) (gentle_countA _) (fun _ => rfl)
  rwa [countA_eq] at hcount

theorem LineOk.crept : LineOk R (crept ln) := by
  have hcount := (keepsLine_lineOk R).kept (l := .a) h (gentle_countCreep _) (fun _ => rfl)
  rwa [countCreep_eq] at hcount

/-- A sample weighs Gp, whatever the line's state (R29). -/
theorem LineOk.sampled (raw : BitVec 16) : LineOk R (sampled ln raw) := by
  have hsample := (keepsLine_lineOk R).kept (l := .a) (e := ln.delivery.sample (corrected ln.delivery raw)) h
    (gentle_sample _ _) (fun _ => congrArg PresetPart.stage (sample_preset _ _))
  rw [sample_eq] at hsample
  exact ⟨hsample.counts, hsample.totals, hsample.valve, hsample.timers, hsample.stay, hsample.openBalance, hsample.closeBalance⟩

end

/-- A sample changes the line alone, beside its entry. -/
theorem probeSample_lines (l : LineId) (raw : BitVec 16) (w : Work) :
    (w.probeSample l raw).st.lines = (w.st.setLine l (sampled (w.st.line l) raw)).lines := by
  obtain ⟨hfirst, hnot⟩ := probeSample_eq l raw w
  by_cases h : firstInvalid (w.st.line l).delivery raw
  · rw [hfirst h]
    exact State.logFault_lines _ _
  · rw [hnot h]

section
variable {R : Prop} {w : Work} {l : LineId}

theorem LinesOk.flowPulse (h : LinesOk R w.st) (hst : (w.st.line l).state = .flowing) : LinesOk R (w.flowPulse l).st := by
  have hopen : (w.st.line l).state.isOpen = true := by rw [hst]; rfl
  have hcounted := (h l).flowCounted hopen
  rw [flowPulse_eq l w hst]
  dsimp only
  split
  · exact h.set ((keepsLine_lineOk R).settled (l := l) (e := (flowCounted (w.st.line l)).delivery) hcounted
      (.of_eq rfl rfl rfl rfl) hopen)
  · exact h.set ((keepsLine_lineOk R).kept (l := l) hcounted (gentle_slowed _) (fun hne => absurd hst hne))

theorem LinesOk.creepPulse (h : LinesOk R w.st) (hst : (w.st.line l).state = .armed ∨ (w.st.line l).state = .paused) :
    LinesOk R (w.creepPulse l).st := by
  have hopen : (w.st.line l).state.isOpen = true ∧ (w.st.line l).state ≠ .halted := by
    rcases hst with hst | hst <;> rw [hst] <;> decide
  have hcrept := ((h l).counted hopen.1).crept
  rw [creepPulse_eq l w hopen.2]
  dsimp only
  split
  · exact Lines.set (h.congr (State.logFault_lines _ _)) ((keepsLine_lineOk R).halted (l := l)
      (e := (crept (counted (w.st.line l))).delivery) hcrept (.of_eq rfl rfl rfl rfl) hopen.1)
  · exact h.set hcrept

theorem LinesOk.pickup1 (h : LinesOk R w.st) : LinesOk R (w.pickup1 l).st := by
  have hunticketed : (w.st.line l).state.isOpen = false → LinesOk R (w.unticketedPulse l).st := by
    intro hst
    rw [unticketedPulse_eq]
    dsimp only
    split
    · exact h.set ((h l).unticketedCounted hst)
    · exact Lines.set (h.congr (State.logFault_lines _ _)) ((h l).unticketedCounted hst)
  unfold Work.pickup1
  split
  next hst => exact LinesOk.flowPulse h hst
  next hst => exact LinesOk.creepPulse h (.inl hst)
  next hst => exact LinesOk.creepPulse h (.inr hst)
  next hst =>
    rw [creep_counted]
    exact h.set ((h l).counted (by rw [hst]; rfl)).crept
  next hst =>
    have hcounted := (h l).counted (by rw [hst]; rfl)
    have hpulse : w.settlingPulse l = ⟨w.st.setLine l { counted (w.st.line l) with quietRunning := true }, w.notes⟩ := by
      simp only [Work.settlingPulse, grossPulse_eq, State.setLine_line, Work.setLine, Work.mapSt, setLine_setLine]
    rw [hpulse]
    exact h.set ⟨hcounted.counts, hcounted.totals, hcounted.valve, ⟨hcounted.timers.1, fun _ => hst⟩, hcounted.stay,
      hcounted.openBalance, hcounted.closeBalance⟩
  iterate 3 next hst => exact hunticketed (by rw [hst]; rfl)

/-! ## Inputs -/

theorem LinesOk.pauseIfFlowing {c : PauseCause} (h : LinesOk R w.st) : LinesOk R (w.pauseIfFlowing l c).st := by
  unfold Work.pauseIfFlowing
  split
  next hst => exact (keepsLine_lineOk R).pauseLine h hst
  next => exact h

theorem LinesOk.markOpened (h : LinesOk R w.st) : LinesOk R (w.markOpened l).st := by
  unfold Work.markOpened
  split
  · exact (keepsLine_lineOk R).mapDelivery h (fun _ => .of_eq rfl rfl rfl rfl) (fun _ => rfl)
  · exact h

theorem LinesOk.takeEstop (h : LinesOk R w.st) : LinesOk R w.takeEstop.st :=
  LinesOk.pauseIfFlowing (LinesOk.pauseIfFlowing (lines_fault (w := w.mapSt _) (h.congr rfl)))

theorem LinesOk.takePumpFault (h : LinesOk R w.st) : LinesOk R w.takePumpFault.st :=
  LinesOk.pauseIfFlowing (LinesOk.pauseIfFlowing (lines_fault h))

theorem probeSample_line {raw : BitVec 16} : (w.probeSample l raw).st.line l = sampled (w.st.line l) raw := by
  rw [State.line, probeSample_lines]
  exact State.setLine_line _ _ _

/-! ## The flow window -/

theorem LinesOk.probeSample {raw : BitVec 16} (h : LinesOk R w.st) : LinesOk R (w.probeSample l raw).st :=
  (h.set ((h l).sampled raw)).congr (probeSample_lines l raw w)

theorem LinesOk.expiryJudge (h : LinesOk R w.st) (hst : (w.st.line l).state = .flowing) : LinesOk R (w.expiryJudge l).st := by
  have hjudged : LinesOk R (w.mapDelivery l Delivery.judgeWindow).st :=
    (keepsLine_lineOk R).mapDelivery h gentle_judgeWindow (fun _ => rfl)
  have hline : ((w.mapDelivery l Delivery.judgeWindow).st.line l).state = .flowing := by
    rw [mapDelivery_eq, State.setLine_line]
    exact hst
  unfold Work.expiryJudge
  dsimp only
  split
  · exact lines_fault ((keepsLine_lineOk R).haltLine hjudged (.inr (.inl hline)))
  · split
    · exact (keepsLine_lineOk R).pauseLine hjudged hline
    · exact hjudged

theorem LinesOk.expiryLoad (h : LinesOk R w.st) (hst : (w.st.line l).state = .flowing) : LinesOk R (w.expiryLoad l).st := by
  have hload : w.mapDelivery l Delivery.load =
      ⟨w.st.setLine l { w.st.line l with delivery := loaded (w.st.line l).delivery }, w.notes⟩ := by rw [mapDelivery_eq, load_eq]
  have hloaded : LinesOk R (w.mapDelivery l Delivery.load).st := by
    rw [hload]
    exact h.set ((keepsLine_lineOk R).kept (l := l) (h l) (gentle_loaded _) (fun hne => absurd hst hne))
  have hline : ((w.mapDelivery l Delivery.load).st.line l).state = .flowing := by
    rw [hload, State.setLine_line]
    exact hst
  unfold Work.expiryLoad Work.latchCheck
  dsimp only
  split
  · exact (keepsLine_lineOk R).settleLine hloaded (by rw [hline]; rfl) (by rw [hline]; decide)
  · split
    · exact hloaded
    · exact lines_fault ((keepsLine_lineOk R).haltLine hloaded (.inr (.inl hline)))

theorem LinesOk.flowExpiry {raw : BitVec 16} (h : LinesOk R w.st) (hst : (w.st.line l).state = .flowing) :
    LinesOk R (w.flowExpiry l raw).st := by
  have hsample : LinesOk R ((w.expiryJudge l).probeSample l raw).st := LinesOk.probeSample (LinesOk.expiryJudge h hst)
  unfold Work.flowExpiry
  dsimp only
  split
  next hflow =>
    exact (keepsLine_lineOk R).mapDelivery (w := Work.notify _ _ _ _) (LinesOk.expiryLoad hsample hflow)
      gentle_clearWindow (fun _ => rfl)
  next =>
    exact (keepsLine_lineOk R).mapDelivery (w := Work.notify _ _ _ _) hsample gentle_clearWindow (fun _ => rfl)

/-! ## The end of SETTLING -/

/-- A line in SETTLING whose count has closed: its close totalizer is its totalizer (R8). -/
structure CountClosed (s : State) (l : LineId) : Prop where
  state : (s.line l).state = .settling
  balance : balances (s.line l).delivery (s.line l).delivery.closeTot

/-- A closed delivery enters RECORDING (R70, R71). -/
theorem LinesOk.record {f : Delivery → Delivery} {nothing : Bool} (h : LinesOk R w.st) (hclosed : CountClosed w.st l)
    (hf : ∀ d, Gentle d (f d)) : LinesOk R ((w.mapDelivery l f).changeState l .recording nothing).st := by
  obtain ⟨hst, hbalance⟩ := hclosed
  have hgentle := hf (w.st.line l).delivery
  rw [map_change _ _ _ _ _ (by rw [hst]; decide)]
  refine h.set ((h l).moved (hgentle.counts (h l).counts) hgentle.gross hgentle.openTot (fun hopen => Bool.noConfusion hopen)
    (fun _ => ?_))
  rwa [balances, hgentle.closeTot, hgentle.openTot, hgentle.gross]

theorem LinesOk.closeSale (h : LinesOk R w.st) (hclosed : CountClosed w.st l) : LinesOk R (w.closeSale l).st := by
  have hnumber : LinesOk R (w.mapSt (fun s => { s with journal := { s.journal with nextNumber := w.st.journal.nextNumber + 1 } })).st :=
    h.congr rfl
  exact (LinesOk.record (l := l) (nothing := false) hnumber ⟨hclosed.state, hclosed.balance⟩
    (f := fun d => Delivery.finishSale l { d with ticketNumber := some w.st.journal.nextNumber })
    (fun d => .of_eq rfl rfl rfl rfl)).congr (State.hand_lines _ _)

theorem LinesOk.closeTest (h : LinesOk R w.st) (hclosed : CountClosed w.st l) : LinesOk R (w.closeTest l).st := by
  have hrecord : LinesOk R ((w.mapDelivery l (Delivery.finishTest l false)).changeState l .recording false).st :=
    LinesOk.record h hclosed (fun d => .of_eq rfl rfl rfl rfl)
  unfold Work.closeTest Work.mapSt
  dsimp only
  split
  · exact hrecord.congr (State.hand_lines _ _)
  · exact hrecord

theorem LinesOk.closeEmpty (h : LinesOk R w.st) : LinesOk R (w.closeEmpty l).st := by
  have hback : LinesOk R (w.mapSt (fun s => s.giveBack l)).st := h.congr (giveBack_lines _ _)
  unfold Work.closeEmpty
  dsimp only
  split
  · exact (keepsLine_lineOk R).changeState (w := Work.notify _ _ _ _) hback (restState_cases _ _)
  · exact (keepsLine_lineOk R).changeState hback (restState_cases _ _)

theorem LinesOk.close {raw : BitVec 16} (h : LinesOk R w.st) (hrun : R) (hst : (w.st.line l).state = .settling) :
    LinesOk R (w.close l raw).st := by
  have hbalance := (h l).openBalance hrun (by rw [hst]; rfl)
  have hcounted : LinesOk R (w.mapSt (fun s => s.setDelivery l (s.closedRecord l))).st :=
    h.set ((h l).kept (countsOk_congr (h l).counts rfl rfl) rfl rfl
      (fun hrec => LineState.noConfusion (hst.symm.trans hrec)) (fun _ => rfl))
  have hsampled := LinesOk.probeSample (l := l) (raw := raw) hcounted
  have hclosed : CountClosed ((w.mapSt (fun s => s.setDelivery l (s.closedRecord l))).probeSample l raw).st l := by
    have hline : (w.mapSt (fun s => s.setDelivery l (s.closedRecord l))).st.line l =
        { w.st.line l with delivery := w.st.closedRecord l } := State.setLine_line _ _ _
    have hgentle := gentle_sample (w.st.closedRecord l) (corrected (w.st.closedRecord l) raw)
    rw [sample_eq] at hgentle
    refine ⟨?_, ?_⟩ <;> rw [probeSample_line, hline]
    · exact hst
    · change balances (weighted _ raw) (weighted _ raw).closeTot
      rw [balances, hgentle.closeTot, hgentle.openTot, hgentle.gross]
      exact hbalance
  unfold Work.close
  dsimp only
  repeat' split
  · exact LinesOk.closeEmpty hsampled
  · exact LinesOk.closeTest hsampled hclosed
  · exact LinesOk.closeSale hsampled hclosed

end

end Sys2Proof.Safety
end

section
/-! PROOF. The metering and valve invariant through every command, and its statement. -/

namespace Sys2Proof.Safety

open Sys2Proof.Machine

/-! ## Requests -/

theorem grossWrap_pos : 0 < grossWrap := by decide

/-- A line as an accepted ARM or ARM_TEST leaves it: nothing counted, the open totalizer its totalizer (R46, R50). -/
theorem arms_of_linesOk {R : Prop} {s : State} (h : LinesOk R s) : Arms (fun _ => LineOk R) s :=
  fun l _ _ _ _ _ _ _ _ =>
    { counts := ⟨⟨grossWrap_pos, grossWrap_pos, grossWrap_pos⟩, rfl, Nat.zero_le _, ⟨Nat.zero_le _, Nat.zero_le _⟩, ⟨Nat.zero_le _, Nat.zero_le _⟩, vcf_unset⟩
      totals := (h l).totals
      valve := fun _ => rfl
      timers := ⟨fun hwindow => Bool.noConfusion hwindow, fun htimer => by rcases htimer with h | h <;> exact Bool.noConfusion h⟩
      stay := rfl
      openBalance := fun _ _ => (Nat.mod_eq_of_lt (h l).totals.1).symm
      closeBalance := fun hst => LineState.noConfusion hst }

/-! ## Events -/

theorem event_lines {K : LineId → Line → Prop} {f : Work → Work} {s : State} (h : Lines K (f ⟨s, []⟩).st) :
    ∃ u, event f s = .next (State.drive u) ∧ Lines K u :=
  ⟨_, event_next f s, h.congr (State.sendNotices_lines _ _)⟩

section
variable {R : Prop} {w : Work}

theorem lines_setInputs {K : LineId → Line → Prop} {f : Inputs → Inputs} (h : Lines K w.st) :
    Lines K (w.mapSt (fun s => s.setInputs f)).st := h.congr rfl

theorem LinesOk.sweepAll (h : LinesOk R w.st) : LinesOk R w.sweepAll.st := by
  unfold Work.sweepAll
  dsimp only
  split
  · exact h.congr rfl
  · exact (keepsLine_lineOk R).failedSweep (w := w.mapSt _) (h.congr rfl)

theorem LinesOk.settleCap {l : LineId} (h : LinesOk R w.st) : LinesOk R (w.settleCap l).st :=
  lines_fault ((keepsLine_lineOk R).mapDelivery h (fun _ => .of_eq rfl rfl rfl rfl) (fun _ => rfl))

theorem settleCap_state {l : LineId} : ((w.settleCap l).st.line l).state = (w.st.line l).state := by
  rw [Work.settleCap, mapDelivery_eq, fault_eq]
  dsimp only
  rw [State.line, State.logFault_lines]
  exact (congrArg Line.state (State.setLine_line _ _ _)).trans rfl

theorem running_of_taking {s : State} {b : Bool} (h : (s.taking && b) = true) : s.restart.phase = .running ∧ b = true := by
  obtain ⟨htaking, hb⟩ := Bool.and_eq_true_iff.mp h
  exact ⟨eq_of_beq htaking, hb⟩

end

/-- A calm command keeps every line well. -/
theorem calm_lines {c : Instr} {s : State} (hc : isCalm c = true) (h : LinesOk (s.restart.phase = .running) s) :
    ∃ u, exec c s = .next (State.drive u) ∧ LinesOk (s.restart.phase = .running) u := by
  have hK := keepsLine_lineOk (s.restart.phase = .running)
  by_cases hrequest : isRequest c = true
  · exact exec_request_leads (P := LinesOk _) (Q := LinesOk _) (fun _ _ h => h.congr rfl) (fun _ _ h => h.congr rfl)
      (fun _ h => h) (fun k _ _ _ h => hK.owner k h (arms_of_linesOk h)) hrequest h
  cases c with
  | frameDiscarded link =>
    change ∃ u, execFrameDiscarded _ s = _ ∧ _
    unfold execFrameDiscarded
    exact event_lines (h.congr rfl)
  | lineError =>
    change ∃ u, execLineError _ s = _ ∧ _
    unfold execLineError
    exact event_lines (h.congr rfl)
  | receiveGapTimeout =>
    change ∃ u, execReceiveGapTimeout _ s = _ ∧ _
    unfold execReceiveGapTimeout
    exact event_lines (h.congr rfl)
  | frameTransmitted =>
    change ∃ u, execFrameTransmitted _ s = _ ∧ _
    unfold execFrameTransmitted
    refine event_lines (h.congr ?_)
    rw [mapSt_st]
    split <;> rfl
  | pickup1Pulse =>
    change ∃ u, execPickup1Pulse _ s = _ ∧ _
    unfold execPickup1Pulse
    exact event_lines (ite_keeps (LinesOk.pickup1 h) h)
  | pickup2Pulse =>
    change ∃ u, execPickup2Pulse _ s = _ ∧ _
    unfold execPickup2Pulse
    exact event_lines (ite_keeps (hK.mapDelivery h gentle_countB (fun _ => rfl)) h)
  | airAsserted =>
    change ∃ u, execAirAsserted _ s = _ ∧ _
    unfold execAirAsserted
    exact event_lines (ite_keeps (LinesOk.pauseIfFlowing (lines_setInputs h)) (lines_setInputs h))
  | estopAsserted =>
    change ∃ u, execEstopAsserted s = _ ∧ _
    unfold execEstopAsserted
    refine event_lines ?_
    dsimp only
    split
    · exact h
    · exact ite_keeps (LinesOk.takeEstop (lines_setInputs h)) (lines_setInputs h)
  | pumpFaultAsserted =>
    change ∃ u, execPumpFaultAsserted s = _ ∧ _
    unfold execPumpFaultAsserted
    refine event_lines ?_
    dsimp only
    split
    · exact h
    · exact ite_keeps (LinesOk.takePumpFault (lines_setInputs h)) (lines_setInputs h)
  | inspectionSwitchOpened =>
    change ∃ u, execInspectionSwitchOpened s = _ ∧ _
    unfold execInspectionSwitchOpened
    exact event_lines (ite_keeps (LinesOk.markOpened (LinesOk.markOpened (lines_setInputs h))) (lines_setInputs h))
  | airReleased =>
    change ∃ u, execAirReleased _ s = _ ∧ _
    unfold execAirReleased
    exact event_lines (lines_setInputs h)
  | estopReleased =>
    change ∃ u, execEstopReleased s = _ ∧ _
    unfold execEstopReleased
    refine event_lines (h.congr ?_)
    rw [mapSt_st]
    dsimp only
    split <;> rfl
  | pumpFaultReleased =>
    change ∃ u, execPumpFaultReleased s = _ ∧ _
    unfold execPumpFaultReleased
    exact event_lines (lines_setInputs h)
  | inspectionSwitchClosed =>
    change ∃ u, execInspectionSwitchClosed s = _ ∧ _
    unfold execInspectionSwitchClosed
    exact event_lines (lines_setInputs h)
  | powerFailWarningCleared =>
    change ∃ u, execPowerFailWarningCleared s = _ ∧ _
    unfold execPowerFailWarningCleared
    exact event_lines (h.congr rfl)
  | resetReleased =>
    change ∃ u, execResetReleased s = _ ∧ _
    unfold execResetReleased
    exact event_lines (h.congr rfl)
  | flowWindowExpiry l raw =>
    change ∃ u, execFlowWindowExpiry l raw s = _ ∧ _
    unfold execFlowWindowExpiry
    refine event_lines ?_
    dsimp only
    split
    next hdue =>
      have hst : (s.line l).state = .flowing := eq_of_beq (Bool.and_eq_true_iff.mp (running_of_taking hdue).2).1
      exact LinesOk.flowExpiry h hst
    next => exact h
  | quietTimerExpiry l raw =>
    change ∃ u, execQuietTimerExpiry l raw s = _ ∧ _
    unfold execQuietTimerExpiry
    refine event_lines ?_
    dsimp only
    split
    next hdue =>
      obtain ⟨hrun, hquiet⟩ := running_of_taking hdue
      exact LinesOk.close h hrun (eq_of_beq (Bool.and_eq_true_iff.mp hquiet).1)
    next => exact h
  | capTimerExpiry l raw =>
    change ∃ u, execCapTimerExpiry l raw s = _ ∧ _
    unfold execCapTimerExpiry
    refine event_lines ?_
    dsimp only
    split
    next hdue =>
      obtain ⟨hrun, hcap⟩ := running_of_taking hdue
      exact LinesOk.close (LinesOk.settleCap h) hrun (settleCap_state.trans (eq_of_beq (Bool.and_eq_true_iff.mp hcap).1))
    next => exact h
  | sweepTimerExpiry =>
    change ∃ u, execSweepTimerExpiry s = _ ∧ _
    unfold execSweepTimerExpiry
    exact event_lines (ite_keeps (LinesOk.sweepAll h) h)
  | clockSecond =>
    change ∃ u, execClockSecond s = _ ∧ _
    unfold execClockSecond
    refine event_lines (h.congr ?_)
    rw [mapSt_st]
    split <;> rfl
  | shadowUpset =>
    change ∃ u, execShadowUpset _ _ s = _ ∧ _
    unfold execShadowUpset
    exact event_lines (h.congr rfl)
  | latchedCopyDisturbed =>
    change ∃ u, execLatchedCopyDisturbed _ _ s = _ ∧ _
    unfold execLatchedCopyDisturbed
    exact event_lines (ite_keeps (hK.mapDelivery h (fun _ => .of_eq rfl rfl rfl rfl) (fun _ => rfl)) h)
  | powerFailWarning | resetAsserted | restartSaveWritten | startUpSequence | startUpFinish | journalAppendCompletion
  | calibrationWriteCompletion | testRecordCompletion | restartUpdateCompletion | faultLogWriteCompletion
  | storedTicketDamage | storedCalibrationDamage => exact Bool.noConfusion hc
  | _ => exact absurd rfl hrequest

end Sys2Proof.Safety
end

section
/-! PROOF. The metering and valve invariant through every command: the held and the stored snapshots, the completions, the
restart, and its statement. -/

namespace Sys2Proof.Safety

open Sys2Proof.Machine

/-! ## The phase and the snapshots -/

/-- The phase, the held snapshots and the stored snapshots are as they were. -/
def SameSaves (s t : State) : Prop :=
  t.restart.phase = s.restart.phase ∧ t.restart.held = s.restart.held ∧ t.store.snapshots = s.store.snapshots

theorem SameSaves.of_eq {s t : State} (hrestart : t.restart = s.restart) (hstore : t.store = s.store) : SameSaves s t := by
  rw [SameSaves, hrestart, hstore]
  exact ⟨rfl, rfl, rfl⟩

theorem SameSaves.trans {s t u : State} (h : SameSaves s t) (k : SameSaves t u) : SameSaves s u :=
  ⟨k.1.trans h.1, k.2.1.trans h.2.1, k.2.2.trans h.2.2⟩

theorem survives_sameSaves (s : State) : Survives (SameSaves s) where
  lines _ _ h := h
  cal _ _ h := h
  slots _ _ h := h
  journal _ _ _ _ h := h
  log _ _ h := h.trans (.of_eq (State.logFault_restart _ _) (State.logFault_store _ _))
  hand _ _ _ h := h.trans (.of_eq (State.hand_restart _ _) (State.hand_store _ _))
  lost _ _ h := h
  front _ _ _ _ h := h
  outputs _ _ _ h := h
  inputs _ _ _ h := h
  plan _ _ _ _ h := h
  counter _ h := h
  clock _ _ _ _ h := h
  cleared _ h := h.trans (.of_eq (State.placeFree_restart _) (State.placeFree_store _))

/-- The invariant by its lines, in a part whose phase and snapshots are as they were. -/
theorem MeterInv.of_lines {s t : State} (h : MeterInv s) (hlines : LinesOk (s.restart.phase = .running) t)
    (hsaves : SameSaves s t) : MeterInv t := by
  obtain ⟨hphase, hheld, hstored⟩ := hsaves
  refine ⟨fun l => ?_, fun l => ?_, fun l => ?_⟩
  · rw [hphase]
    exact hlines l
  · rw [hheld]
    exact h.held l
  · rw [hstored]
    exact h.stored l

theorem MeterInv.linesOk {s : State} (h : MeterInv s) : LinesOk (s.restart.phase = .running) s := h.line

/-- Driving the outputs changes no count, no timer and no valve stage (R77). -/
theorem MeterInv.drive {s : State} (h : MeterInv s) : MeterInv s.drive := by
  refine h.of_lines (fun l => ?_) (.of_eq rfl rfl)
  rw [State.drive_line]
  obtain ⟨hcounts, htotals, hvalve, htimers, hstay, hopen, hclose⟩ := h.line l
  exact ⟨hcounts, htotals, hvalve, htimers, hstay, hopen, hclose⟩

theorem MeterInv.event {f : Work → Work} {s : State} (h : MeterInv (f ⟨s, []⟩).st) :
    ∃ u, event f s = .next (State.drive u) ∧ MeterInv u :=
  ⟨_, event_next f s, h.of_lines (h.linesOk.congr (State.sendNotices_lines _ _))
    (.of_eq (State.sendNotices_restart _ _) (State.sendNotices_store _ _))⟩

theorem MeterInv.calm {c : Instr} {s : State} (hc : isCalm c = true) (h : MeterInv s) :
    ∃ u, exec c s = .next (State.drive u) ∧ MeterInv u.drive := by
  obtain ⟨u, hu, hlines⟩ := calm_lines hc h.linesOk
  obtain ⟨v, hv, hsaves⟩ := (survives_sameSaves s).exec hc (.of_eq rfl rfl)
  have hdrive : u.drive = v.drive := by
    rw [hu] at hv
    exact Host.Outcome.next.inj hv
  have hdriven : SameSaves s u.drive := by
    rw [hdrive]
    exact hsaves
  exact ⟨u, hu, (h.of_lines hlines hdriven).drive⟩

/-- The work on a part whose invariant holds, when it keeps the lines and the snapshots. -/
theorem MeterInv.work {f : Work → Work} {w : Work} (h : MeterInv w.st)
    (hlines : ∀ {R : Prop}, LinesOk R w.st → LinesOk R (f w).st)
    (hsaves : ∀ {P : State → Prop}, Stable P → P w.st → P (f w).st) : MeterInv (f w).st :=
  h.of_lines (hlines h.linesOk) (hsaves (survives_sameSaves w.st).toStable (.of_eq rfl rfl))

/-! ## Completions -/

theorem MeterInv.completion {take : InFlight → Option (Work → Work)} {s : State} (h : MeterInv s)
    (htake : ∀ x f, take x = some f → MeterInv (f ⟨s, []⟩).st) :
    ∃ u, completion take s = .next (State.drive u) ∧ MeterInv u := by
  unfold Machine.completion
  refine MeterInv.event ?_
  split
  · exact h
  next x _ =>
    split
    · exact h
    next f hf =>
      refine (htake x f hf).of_lines ((htake x f hf).linesOk.congr ?_) (.of_eq ?_ ?_)
      · exact (State.placeFree_lines _).trans (State.engineNext_lines _)
      · exact (State.placeFree_restart _).trans (State.engineNext_restart _)
      · exact (State.placeFree_store _).trans (State.engineNext_store _)

theorem lines_finishSaleLine {K : LineId → Line → Prop} (hK : KeepsLine K) {l : LineId} {n : Nat} {w : Work} (h : Lines K w.st) :
    Lines K (w.finishSaleLine l n).st := by
  have hslot : (w.st.freeSlot l).lines = w.st.lines := by
    unfold State.freeSlot
    split <;> rfl
  exact hK.changeState (w := Work.notify _ _ _ _) (h.congr hslot) (restState_cases _ _)

theorem lines_afterCalibration {K : LineId → Line → Prop} (hK : KeepsLine K) {r : RecordId} {w : Work} (h : Lines K w.st) :
    Lines K (w.afterCalibration r).st := by
  unfold Work.afterCalibration
  dsimp only
  split
  · exact hK.restore (hK.restore (w := Work.notify _ _ _ _) h)
  · exact hK.restore (hK.restore (hK.applyAffected (hK.applyAffected (hK.withdrawIdle
      (hK.withdrawIdle (w := Work.notify _ _ _ _) h)))))

theorem MeterInv.takeAppendUnit {x : InFlight} {f : Work → Work} {w : Work} (h : MeterInv w.st) (hf : takeAppendUnit x = some f) :
    MeterInv (f w).st := by
  unfold Machine.takeAppendUnit at hf
  split at hf
  next l recovery number next ticket _ =>
    cases hf
    have htaken : MeterInv (w.st.takeAppend recovery next ticket x.header x.marks) := h.of_lines (h.linesOk.congr rfl) ⟨rfl, rfl, rfl⟩
    dsimp only
    split
    · exact htaken
    · split
      · exact MeterInv.work (w := w.mapSt _) htaken (lines_finishSaleLine (keepsLine_lineOk _)) (fun hP => hP.finishSaleLine)
      · exact htaken
  next => cases hf

theorem audited_snapshots (st : Store) (e : AuditEntry) : (st.audited e).snapshots = st.snapshots := by
  unfold Store.audited
  split <;> rfl

theorem MeterInv.takeCalibrationUnit {x : InFlight} {f : Work → Work} {w : Work} (h : MeterInv w.st)
    (hf : takeCalibrationUnit x = some f) : MeterInv (f w).st := by
  unfold Machine.takeCalibrationUnit at hf
  split at hf
  next c check checksum counter e _ =>
    cases hf
    have htaken : MeterInv (w.st.takeCalibration c check checksum counter e) :=
      h.of_lines (h.linesOk.congr rfl) ⟨rfl, rfl, audited_snapshots _ _⟩
    dsimp only
    split
    · exact MeterInv.work (w := w.mapSt _) htaken (lines_afterCalibration (keepsLine_lineOk _)) (fun hP => hP.afterCalibration)
    · exact htaken
  next => cases hf

theorem SnapshotOk.congr {x y : Snapshot} (h : SnapshotOk x) (hstate : y.state = x.state) (hcounts : y.delivery.counts = x.delivery.counts)
    (hvcf : y.delivery.corr.runVcf = x.delivery.corr.runVcf) (hopenTot : y.delivery.openTot = x.delivery.openTot)
    (hcloseTot : y.delivery.closeTot = x.delivery.closeTot) (htotals : y.totalizer = x.totalizer ∧ y.unticketed = x.unticketed) :
    SnapshotOk y where
  counts := countsOk_congr h.counts hcounts hvcf
  totals := by
    rw [htotals.1, htotals.2]
    exact h.totals
  openBalance hst := by
    rw [hstate] at hst
    rw [balances, hopenTot, hcounts, htotals.1]
    exact h.openBalance hst
  closeBalance hst := by
    rw [hstate] at hst
    rw [balances, hopenTot, hcounts, hcloseTot]
    exact h.closeBalance hst

theorem SnapshotOk.markWritten {x : Snapshot} (h : SnapshotOk x) : SnapshotOk x.markWritten := by
  unfold Snapshot.markWritten
  split
  · exact h.congr rfl rfl rfl rfl rfl ⟨rfl, rfl⟩
  · exact h

/-- A snapshot of one line replaced. -/
theorem snapshots_set {x : PerLine Snapshot} {l : LineId} {y : Snapshot} (h : ∀ m, SnapshotOk (x.get m)) (hy : SnapshotOk y)
    (m : LineId) : SnapshotOk ((x.set l y).get m) := by
  rw [PerLine.get_set]
  split
  · exact hy
  · exact h m

theorem MeterInv.takeTestRecord {s : State} (h : MeterInv s) (l : LineId) (run : TestRun) : MeterInv (s.takeTestRecord l run) where
  line m := by
    have hphase : (s.takeTestRecord l run).restart.phase = s.restart.phase := by
      unfold State.takeTestRecord
      split <;> rfl
    rw [hphase]
    exact h.line m
  held m := by
    unfold State.takeTestRecord
    dsimp only
    split
    · exact h.held m
    · exact snapshots_set h.held (h.held l).markWritten m
  stored m := by
    change SnapshotOk ((s.store.audited (.testRun run)).snapshots.get m)
    rw [audited_snapshots]
    exact h.stored m

theorem MeterInv.takeTestUnit {x : InFlight} {f : Work → Work} {w : Work} (h : MeterInv w.st) (hf : takeTestUnit x = some f) :
    MeterInv (f w).st := by
  unfold Machine.takeTestUnit at hf
  split at hf
  next l recovery run _ =>
    cases hf
    have htaken := h.takeTestRecord l run
    dsimp only
    split
    · exact htaken
    · split
      · exact MeterInv.work (f := fun w => w.changeState l (w.st.restState l) false) (w := Work.notify _ _ _ (w.mapSt _)) htaken
          (fun hlines => (keepsLine_lineOk _).changeState hlines (restState_cases _ _)) (fun hP => hP.changeState)
      · exact htaken
  next => cases hf

/-! ## The warning and the save -/

/-- Outside RUNNING nothing is claimed of the totalizer of an open delivery. -/
theorem LineOk.mono {R Q : Prop} {ln : Line} (h : LineOk R ln) (hQ : Q → R) : LineOk Q ln :=
  ⟨h.counts, h.totals, h.valve, h.timers, h.stay, fun hrun => h.openBalance (hQ hrun), h.closeBalance⟩

theorem LineOk.stopTimers {R : Prop} {ln : Line} (h : LineOk R ln) : LineOk R ln.stopTimers :=
  ⟨h.counts, h.totals, h.valve, ⟨fun hwindow => Bool.noConfusion hwindow,
    fun htimer => by rcases htimer with h | h <;> exact Bool.noConfusion h⟩, h.stay, h.openBalance, h.closeBalance⟩

/-- The snapshot of a line of a running part (R172). -/
theorem LineOk.snapshot {R : Prop} {ln : Line} (h : LineOk R ln) (hrun : R) : SnapshotOk ln.snapshot :=
  ⟨h.counts, h.totals, h.openBalance hrun, h.closeBalance⟩

theorem MeterInv.takeRestart {s : State} (h : MeterInv s) (c : RestartCause) : MeterInv (s.takeRestart c) := by
  have hpath : MeterInv (s.restartPath c) := by
    refine ⟨fun l => ?_, fun l => ?_, h.stored⟩
    · have hstopped := ((h.line l).stopTimers).mono (Q := (s.restartPath c).restart.phase = .running)
        (fun hrun => Phase.noConfusion hrun)
      cases l <;> exact hstopped
    · change SnapshotOk ((if s.restart.phase = .running then (⟨s.lines.a.snapshot, s.lines.b.snapshot⟩ : PerLine Snapshot)
        else s.restart.held).get l)
      split
      next hrun =>
        have hsnapshot := (h.line l).snapshot hrun
        cases l <;> exact hsnapshot
      next => exact h.held l
  unfold State.takeRestart
  split
  · exact hpath
  · exact hpath
  · exact h
  · exact h

theorem MeterInv.writeSave {s : State} (h : MeterInv s) : MeterInv s.writeSave where
  line l := (h.line l).mono (fun hrun => Phase.noConfusion hrun)
  held := h.held
  stored := h.held

/-! ## The start-up sequence -/

theorem lines_checkJournal {K : LineId → Line → Prop} {w : Work} (h : Lines K w.st) : Lines K w.checkJournal.st := by
  refine foldl_keeps (P := Lines K) (fun v i hv => ?_) _ h
  unfold Work.checkEntry
  dsimp only
  split
  · exact hv
  · exact lines_fault (w := v.mapSt _) (hv.congr rfl)

theorem lines_interruptedEntry {K : LineId → Line → Prop} {w : Work} {l : LineId} (h : Lines K w.st) :
    Lines K (w.interruptedEntry l).st := by
  unfold Work.interruptedEntry
  dsimp only
  split
  · exact lines_fault h
  · exact h

theorem MeterInv.loadSave {s : State} (h : MeterInv s) (hphase : s.restart.phase = .starting) : MeterInv s.loadSave where
  line l := by
    have hphase' : s.loadSave.restart.phase = .starting := hphase
    rw [hphase']
    obtain ⟨hcounts, -, hvalve, htimers, hstay, -, hclose⟩ := h.line l
    have hline : LineOk (Phase.starting = .running) ((s.line l).restoreTotals (s.store.snapshots.get l)) :=
      ⟨hcounts, (h.stored l).totals, hvalve, htimers, hstay, fun hrun => Phase.noConfusion hrun, hclose⟩
    cases l <;> exact hline
  held := h.stored
  stored := h.stored

theorem MeterInv.setHeld {s : State} (h : MeterInv s) {l : LineId} {x : Snapshot} (hx : SnapshotOk x) : MeterInv (s.setHeld l x) :=
  ⟨h.line, snapshots_set h.held hx, h.stored⟩

theorem MeterInv.hand {s : State} (h : MeterInv s) (u : WriteUnit) : MeterInv (s.hand u) :=
  h.of_lines (h.linesOk.congr (State.hand_lines _ _)) (.of_eq (State.hand_restart _ _) (State.hand_store _ _))

theorem MeterInv.handAppend {s : State} (h : MeterInv s) (l : LineId) (n : Nat) (ticket : List Byte) :
    MeterInv (s.handAppend l n ticket) :=
  MeterInv.hand (s := { s with
    journal := { s.journal with pendingRecovery := s.journal.pendingRecovery + 1 }
    restart := { s.restart with tickets := s.restart.tickets + 1 } }) ⟨h.line, h.held, h.stored⟩ _

theorem MeterInv.handTest {s : State} (h : MeterInv s) (l : LineId) (run : TestRun) : MeterInv (s.handTest l run) :=
  MeterInv.hand (s := { s with restart := { s.restart with testRuns := s.restart.testRuns + 1 } }) ⟨h.line, h.held, h.stored⟩ _

theorem MeterInv.recoverRecorded {s : State} (h : MeterInv s) (l : LineId) : MeterInv (s.recoverRecorded l) := by
  unfold State.recoverRecorded
  split
  · exact h
  · refine MeterInv.handAppend (h.setHeld ?_) _ _ _
    exact (h.held l).congr rfl rfl rfl rfl rfl ⟨rfl, rfl⟩

theorem MeterInv.recoverRecordedSales {s : State} (h : MeterInv s) : MeterInv s.recoverRecordedSales := by
  unfold State.recoverRecordedSales
  repeat' split
  · exact (h.recoverRecorded .b).recoverRecorded .a
  · exact (h.recoverRecorded .a).recoverRecorded .b
  · exact (h.recoverRecorded .a).recoverRecorded .b

/-- A delivery that recovery finishes from an open snapshot, which is then in RECORDING (R178, R180). -/
theorem SnapshotOk.recording {x : Snapshot} (h : SnapshotOk x) (hopen : x.state.isOpen = true) {f : Delivery → Delivery}
    (hf : ∀ d, Gentle d (f d)) : SnapshotOk { x with state := .recording, delivery := f x.weighed, written := false } := by
  have hsample := gentle_recoverySample x.delivery
  have hgentle := hf x.weighed
  refine ⟨hgentle.counts (countsOk_congr (hsample.counts h.counts) rfl rfl), h.totals, fun hst => Bool.noConfusion hst, fun _ => ?_⟩
  have hbalance := h.openBalance hopen
  rw [balances, hgentle.closeTot, hgentle.openTot, hgentle.gross]
  change x.totalizer = (x.delivery.recoverySample.openTot + x.delivery.recoverySample.counts.g) % totalizerWrap
  rw [hsample.openTot, hsample.gross]
  exact hbalance

theorem open_of_isOpenWith {x : Snapshot} {m : Mode} (h : x.isOpenWith m = true) : x.state.isOpen = true := by
  simp only [Snapshot.isOpenWith, Bool.and_eq_true] at h
  exact h.1.1

theorem MeterInv.recoverOpenSale {s : State} (h : MeterInv s) (l : LineId) : MeterInv (s.recoverOpenSale l) := by
  unfold State.recoverOpenSale
  dsimp only
  split
  next hopen =>
    have hsold := (h.held l).recording (open_of_isOpenWith hopen)
      (f := fun d => Delivery.finishSale l { d with
        ticketNumber := some s.journal.nextNumber
        endCause := some (restartEndCause s.restart.cause)
        flags := { d.flags with interrupted := true } }) (fun _ => .of_eq rfl rfl rfl rfl)
    have hnumber : MeterInv { s with journal := { s.journal with nextNumber := s.journal.nextNumber + 1 } } :=
      ⟨h.line, h.held, h.stored⟩
    exact MeterInv.handAppend (hnumber.setHeld hsold) _ _ _
  next => exact h

theorem MeterInv.recoverTest {s : State} (h : MeterInv s) (l : LineId) : MeterInv (s.recoverTest l) := by
  unfold State.recoverTest
  dsimp only
  split
  next hopen =>
    have htested := (h.held l).recording (open_of_isOpenWith hopen) (f := Delivery.finishTest l true)
      (fun _ => .of_eq rfl rfl rfl rfl)
    split
    · exact MeterInv.handTest (h.setHeld htested) _ _
    · exact h
  next =>
    split
    · split
      · refine MeterInv.handTest (h.setHeld ?_) _ _
        exact (h.held l).congr rfl rfl rfl rfl rfl ⟨rfl, rfl⟩
      · exact h
    · exact h

theorem MeterInv.recover {s : State} (h : MeterInv s) : MeterInv s.recover :=
  MeterInv.recoverTest (MeterInv.recoverTest (MeterInv.recoverOpenSale (MeterInv.recoverOpenSale
    (MeterInv.recoverRecordedSales (s := s.raiseNext) ⟨h.line, h.held, h.stored⟩) .a) .b) .a) .b

theorem MeterInv.countInterruption {s : State} (h : MeterInv s) (found : BitVec 256) : MeterInv (s.countInterruption found) :=
  MeterInv.hand (s := { s with restart := { s.restart with interruptions := bump 65535 s.store.interruptions } })
    ⟨h.line, h.held, h.stored⟩ _

theorem MeterInv.beginStartUp {s : State} (h : MeterInv s) : MeterInv s.beginStartUp :=
  ⟨fun l => (h.line l).mono (fun hrun => Phase.noConfusion hrun), h.held, h.stored⟩

theorem MeterInv.loadAll {w : Work} (h : MeterInv w.st) : MeterInv w.loadAll.st :=
  h.work lines_loadAll (fun hP => hP.loadAll)

theorem MeterInv.checkJournal {w : Work} (h : MeterInv w.st) : MeterInv w.checkJournal.st :=
  h.work lines_checkJournal (fun hP => hP.checkJournal)

theorem MeterInv.interruptedEntry {w : Work} {l : LineId} (h : MeterInv w.st) : MeterInv (w.interruptedEntry l).st :=
  h.work lines_interruptedEntry (fun hP => hP.interruptedEntry)

theorem MeterInv.loadedSave {w : Work} (h : MeterInv w.st) : MeterInv (loadedSave w).st := by
  have hphase : (w.mapSt State.beginStartUp).loadAll.st.restart.phase = .starting :=
    ((survives_sameSaves w.st.beginStartUp).toStable.loadAll (w := w.mapSt State.beginStartUp) (.of_eq rfl rfl)).1
  exact MeterInv.loadSave (MeterInv.loadAll (w := w.mapSt State.beginStartUp) h.beginStartUp) hphase

theorem MeterInv.startUp {w : Work} (h : MeterInv w.st) : MeterInv w.startUp.st := by
  have hrecovered : MeterInv (recovered w).st := by
    rw [recovered, mapSt_st]
    exact h.loadedSave.checkJournal.recover
  rw [startUp_st]
  exact hrecovered.interruptedEntry.interruptedEntry.countInterruption _

/-! ## The end of start-up -/

theorem MeterInv.finishStartUp {w : Work} (h : MeterInv w.st) : MeterInv w.finishStartUp.st := by
  have hfresh : ∀ R, LinesOk R (w.mapSt State.settleBlocks).st := by
    intro R l
    have hline : LineOk R (w.st.restartedLine l) := by
      refine lineOk_fresh ?_ (h.line l).totals.1 (h.line l).totals.2
      split
      · exact .inl rfl
      · exact .inr rfl
    cases l <;> exact hline
  have hinputs : ∀ R, LinesOk R (w.mapSt State.settleBlocks).takeInputs.st := by
    intro R
    unfold Work.takeInputs
    exact ite_keeps (lines_fault (ite_keeps (lines_fault (hfresh R)) (hfresh R))) (ite_keeps (lines_fault (hfresh R)) (hfresh R))
  obtain ⟨-, hheld, hstored⟩ := (survives_sameSaves w.st).toStable.takeInputs (w := w.mapSt State.settleBlocks) ⟨rfl, rfl, rfl⟩
  refine ⟨fun l => ?_, fun l => ?_, fun l => ?_⟩
  · exact (hinputs _).congr (State.sendNotices_lines _ _) l
  · change SnapshotOk ((State.sendNotices _ _).restart.held.get l)
    rw [State.sendNotices_restart, hheld]
    exact h.held l
  · change SnapshotOk ((State.sendNotices _ _).store.snapshots.get l)
    rw [State.sendNotices_store, hstored]
    exact h.stored l

/-! ## Settled: the invariant -/

/-- Every command keeps the invariant. -/
theorem MeterInv.exec {s : State} (h : MeterInv s) (c : Instr) : ∃ u, exec c s = .next (State.drive u) ∧ MeterInv u.drive := by
  by_cases hc : isCalm c = true
  · exact h.calm hc
  have hdriven : (∃ u, Machine.exec c s = .next (State.drive u) ∧ MeterInv u) →
      ∃ u, Machine.exec c s = .next (State.drive u) ∧ MeterInv u.drive := fun ⟨u, hu, hinv⟩ => ⟨u, hu, hinv.drive⟩
  apply hdriven
  cases c with
  | powerFailWarning =>
    change ∃ u, execPowerFailWarning s = _ ∧ _
    unfold execPowerFailWarning
    exact MeterInv.event (MeterInv.takeRestart (s := { s with inputs := { s.inputs with powerFail := true } })
      ⟨h.line, h.held, h.stored⟩ .power)
  | resetAsserted =>
    change ∃ u, execResetAsserted s = _ ∧ _
    unfold execResetAsserted
    exact MeterInv.event (MeterInv.takeRestart (s := { s with inputs := { s.inputs with reset := true } })
      ⟨h.line, h.held, h.stored⟩ .reset)
  | restartSaveWritten =>
    change ∃ u, execRestartSaveWritten s = _ ∧ _
    unfold execRestartSaveWritten
    refine MeterInv.event ?_
    rw [mapSt_st]
    split
    · exact h.writeSave
    · exact h
  | startUpSequence =>
    change ∃ u, execStartUpSequence s = _ ∧ _
    unfold execStartUpSequence
    exact MeterInv.event (ite_keeps (MeterInv.startUp (w := ⟨s, []⟩) h) h)
  | startUpFinish =>
    change ∃ u, execStartUpFinish s = _ ∧ _
    unfold execStartUpFinish
    exact MeterInv.event (ite_keeps (MeterInv.finishStartUp (w := ⟨s, []⟩) h) h)
  | journalAppendCompletion => exact h.completion (fun x f hf => MeterInv.takeAppendUnit (w := ⟨s, []⟩) h hf)
  | calibrationWriteCompletion => exact h.completion (fun x f hf => MeterInv.takeCalibrationUnit (w := ⟨s, []⟩) h hf)
  | testRecordCompletion => exact h.completion (fun x f hf => MeterInv.takeTestUnit (w := ⟨s, []⟩) h hf)
  | restartUpdateCompletion =>
    refine h.completion (fun x f hf => ?_)
    obtain ⟨n, m, -, rfl⟩ := takeUpdateUnit_eq hf
    exact ⟨h.line, h.held, h.stored⟩
  | faultLogWriteCompletion =>
    refine h.completion (fun x f hf => ?_)
    obtain ⟨-, rfl⟩ := takeFaultLogUnit_eq hf
    exact ⟨h.line, h.held, h.stored⟩
  | storedTicketDamage place record =>
    change ∃ u, execStoredTicketDamage place record s = _ ∧ _
    unfold execStoredTicketDamage
    refine MeterInv.event ?_
    rw [mapSt_st]
    split
    · exact ⟨h.line, h.held, h.stored⟩
    · exact h
  | storedCalibrationDamage d =>
    change ∃ u, execStoredCalibrationDamage d s = _ ∧ _
    unfold execStoredCalibrationDamage
    refine MeterInv.event (h.of_lines (h.linesOk.congr rfl) ⟨rfl, rfl, ?_⟩)
    cases d <;> rfl
  | _ => exact absurd rfl hc

/-- Settles O58: the step takes the front command, and every command keeps the invariant. -/
theorem meteringInvariantIsKept : Obligations.MeteringInvariantIsKept := by
  intro s t h hstep
  unfold step at hstep
  split at hstep
  · cases hstep
    exact h
  next c rest _ =>
    have hrest : MeterInv { s with pending := rest } := ⟨h.line, h.held, h.stored⟩
    obtain ⟨u, hu, hinv⟩ := hrest.exec c
    cases hu.symm.trans hstep
    exact hinv

end Sys2Proof.Safety
end

section
/-! PROOF. Recovery step by step: the units that each step hands over, in order, what it counts and the snapshot it leaves. -/

namespace Sys2Proof.Safety

open Sys2Proof.Machine

/-! ## Units handed over one after the other -/

/-- The units in the engine, oldest first (R138). -/
def unitsOf (e : Engine) : List WriteUnit := e.inFlight.toList.map InFlight.unit ++ e.queue

/-- The engine can take a number of units more (R138). -/
inductive Room (e : Engine) (n : Nat) : Prop
  | idle : e.state = .idle → e.inFlight = none → e.queue = [] → n ≤ 5 → Room e n
  | writing (x : InFlight) : e.state = .writing → e.inFlight = some x → e.queue.length + n ≤ 4 → Room e n

theorem inEngine_iff (s : State) (u : WriteUnit) : inEngine s u ↔ u ∈ unitsOf s.engine := by
  rw [inEngine, unitsOf, List.mem_append, or_comm]
  refine or_congr ?_ Iff.rfl
  cases s.engine.inFlight <;> simp [eq_comm]

/-- A unit that the engine has room for joins at the newest end. -/
theorem hand_units {s : State} {n : Nat} (h : Room s.engine (n + 1)) (u : WriteUnit) :
    Room (s.hand u).engine n ∧ unitsOf (s.hand u).engine = unitsOf s.engine ++ [u] := by
  cases h with
  | idle hst hflight hqueue hn =>
    rw [hand_idle hst, goInFlight_eq]
    refine ⟨.writing _ rfl rfl ?_, ?_⟩
    · dsimp only
      rw [hqueue, List.length_nil]
      omega
    · simp only [unitsOf, hflight, hqueue, Option.toList_some, Option.toList_none, List.map_cons, List.map_nil, List.nil_append,
        List.append_nil]
  | writing x hst hflight hqueue =>
    rw [hand_writing hst (by omega)]
    refine ⟨.writing x hst hflight ?_, ?_⟩
    · dsimp only
      rw [List.length_append, List.length_singleton]
      omega
    · simp only [unitsOf, List.append_assoc]

/-- A part of recovery that hands over units: what it counts, and where the units stand (R177). -/
structure Hands (s t : State) (us : List WriteUnit) : Prop where
  keeps : RecoveryKeeps s t
  tickets : t.restart.tickets = s.restart.tickets + us.countP isAppend
  pending : t.journal.pendingRecovery = s.journal.pendingRecovery + us.countP isAppend
  testRuns : t.restart.testRuns = s.restart.testRuns + us.countP isTestRecord
  units : ∀ n, Room s.engine (us.length + n) → Room t.engine n ∧ unitsOf t.engine = unitsOf s.engine ++ us

theorem Hands.none (s : State) : Hands s s [] :=
  ⟨.refl s, rfl, rfl, rfl, fun n h => ⟨by simpa using h, (List.append_nil _).symm⟩⟩

theorem Hands.trans {s t u : State} {us vs : List WriteUnit} (h : Hands s t us) (k : Hands t u vs) : Hands s u (us ++ vs) where
  keeps := h.keeps.trans k.keeps
  tickets := by rw [k.tickets, h.tickets, List.countP_append, Nat.add_assoc]
  pending := by rw [k.pending, h.pending, List.countP_append, Nat.add_assoc]
  testRuns := by rw [k.testRuns, h.testRuns, List.countP_append, Nat.add_assoc]
  units n hroom := by
    rw [List.length_append, Nat.add_assoc] at hroom
    obtain ⟨hmiddle, hfirst⟩ := h.units _ hroom
    obtain ⟨hlast, hsecond⟩ := k.units _ hmiddle
    exact ⟨hlast, by rw [hsecond, hfirst, List.append_assoc]⟩

/-- A step that hands nothing over and counts nothing. -/
theorem Hands.quiet {s t : State} (h : RecoveryKeeps s t) (hengine : t.engine = s.engine)
    (hrestart : t.restart.tickets = s.restart.tickets ∧ t.restart.testRuns = s.restart.testRuns)
    (hpending : t.journal.pendingRecovery = s.journal.pendingRecovery) : Hands s t [] :=
  ⟨h, hrestart.1, hpending, hrestart.2, fun n hroom => by
    rw [hengine]
    exact ⟨by simpa using hroom, (List.append_nil _).symm⟩⟩

theorem handAppend_restart (s : State) (l : LineId) (n : Nat) (ticket : List Byte) :
    (s.handAppend l n ticket).restart = { s.restart with tickets := s.restart.tickets + 1 } := State.hand_restart _ _

theorem handAppend_journal (s : State) (l : LineId) (n : Nat) (ticket : List Byte) : (s.handAppend l n ticket).journal =
    { s.journal with pendingRecovery := s.journal.pendingRecovery + 1 } := State.hand_journal _ _

theorem handTest_restart (s : State) (l : LineId) (run : TestRun) :
    (s.handTest l run).restart = { s.restart with testRuns := s.restart.testRuns + 1 } := State.hand_restart _ _

theorem handTest_journal (s : State) (l : LineId) (run : TestRun) : (s.handTest l run).journal = s.journal :=
  State.hand_journal _ _

theorem handAppend_hands (s : State) (l : LineId) (n : Nat) (ticket : List Byte) :
    Hands s (s.handAppend l n ticket) [.journalAppend l true n s.journal.nextNumber ticket] where
  keeps := RecoveryKeeps.handAppend s l n ticket
  tickets := by rw [handAppend_restart]; rfl
  pending := by rw [handAppend_journal]; rfl
  testRuns := by rw [handAppend_restart]; rfl
  units k hroom := hand_units (s := { s with
    journal := { s.journal with pendingRecovery := s.journal.pendingRecovery + 1 }
    restart := { s.restart with tickets := s.restart.tickets + 1 } }) (by rwa [Nat.add_comm] at hroom) _

theorem handTest_hands (s : State) (l : LineId) (run : TestRun) : Hands s (s.handTest l run) [.testRecord l true run] where
  keeps := RecoveryKeeps.handTest s l run
  tickets := by rw [handTest_restart]; rfl
  pending := by rw [handTest_journal]; rfl
  testRuns := by rw [handTest_restart]; rfl
  units k hroom := hand_units (s := { s with restart := { s.restart with testRuns := s.restart.testRuns + 1 } })
    (by rwa [Nat.add_comm] at hroom) _

theorem setHeld_hands (s : State) (l : LineId) (x : Snapshot) : Hands s (s.setHeld l x) [] :=
  .quiet (.setHeld s l x) rfl ⟨rfl, rfl⟩ rfl

/-! ## What recovery owes one line's snapshot -/

/-- What a step of recovery makes of a line's snapshot: the units it hands over, and the snapshot it leaves. -/
structure Duty where
  units : List WriteUnit
  left : Snapshot

/-- A SALE in RECORDING whose number, when there is one, the journal does not hold (R179). -/
def recordedDuty (l : LineId) (x : Snapshot) (next : Nat) : Option Nat → Duty
  | none => ⟨[], x⟩
  | some n => ⟨[.journalAppend l true n next (x.delivery.interruptSale.ticket.getD [])],
      { x with delivery := x.delivery.interruptSale }⟩

/-- An open SALE with G > 0 (R178). -/
def saleDuty (l : LineId) (x : Snapshot) (cause : RestartCause) (next : Nat) : Duty :=
  if x.isOpenWith .sale then
    ⟨[.journalAppend l true next (next + 1) ((x.soldDelivery l cause next).ticket.getD [])],
      { x with state := .recording, delivery := x.soldDelivery l cause next, written := false }⟩
  else ⟨[], x⟩

/-- The next number after the recovery of an open SALE (R178). -/
def nextAfter (x : Snapshot) (next : Nat) : Nat := if x.isOpenWith .sale then next + 1 else next

/-- A TEST that is open with G > 0, or in RECORDING and not written (R180). -/
def testDuty (l : LineId) (x : Snapshot) : Duty :=
  if x.isOpenWith .test then
    match (Delivery.finishTest l true x.weighed).testRun with
    | some r => ⟨[.testRecord l true r],
        { x with state := .recording, delivery := Delivery.finishTest l true x.weighed, written := false }⟩
    | none => ⟨[], x⟩
  else if x.state = .recording ∧ x.delivery.mode = some .test ∧ x.written = false then
    match x.delivery.testRun with
    | some r => ⟨[.testRecord l true { r with interrupted := true }],
        { x with delivery := { x.delivery with testRun := some { r with interrupted := true } } }⟩
    | none => ⟨[], x⟩
  else ⟨[], x⟩

/-- A step of recovery at one line: it hands over its units and leaves its snapshot there, with a next number after it. -/
structure Recovers (l : LineId) (s t : State) (d : Duty) (next : Nat) : Prop where
  hands : Hands s t d.units
  held : t.restart.held = s.restart.held.set l d.left
  next : t.journal.nextNumber = next

theorem recovers_nothing (l : LineId) (s : State) : Recovers l s s ⟨[], s.heldOf l⟩ s.journal.nextNumber :=
  ⟨.none s, by rw [State.heldOf]; cases l <;> rfl, rfl⟩

theorem recoverRecorded_recovers (l : LineId) (s : State) : Recovers l s (s.recoverRecorded l)
    (recordedDuty l (s.heldOf l) s.journal.nextNumber (s.unheldNumber l)) s.journal.nextNumber := by
  unfold State.recoverRecorded
  cases s.unheldNumber l with
  | none => exact recovers_nothing l s
  | some n =>
    exact ⟨(setHeld_hands s l _).trans (handAppend_hands _ l n _), by rw [handAppend_restart]; rfl,
      by rw [handAppend_journal]; rfl⟩

theorem recoverOpenSale_recovers (l : LineId) (s : State) : Recovers l s (s.recoverOpenSale l)
    (saleDuty l (s.heldOf l) s.restart.cause s.journal.nextNumber) (nextAfter (s.heldOf l) s.journal.nextNumber) := by
  unfold State.recoverOpenSale saleDuty nextAfter
  dsimp only
  split
  · have hnumber : Hands s { s with journal := { s.journal with nextNumber := s.journal.nextNumber + 1 } } [] :=
      .quiet (.setNext s _) rfl ⟨rfl, rfl⟩ rfl
    exact ⟨hnumber.trans ((setHeld_hands _ l _).trans (handAppend_hands _ l _ _)), by rw [handAppend_restart]; rfl,
      by rw [handAppend_journal]; rfl⟩
  · exact recovers_nothing l s

theorem recoverTest_recovers (l : LineId) (s : State) : Recovers l s (s.recoverTest l) (testDuty l (s.heldOf l))
    s.journal.nextNumber := by
  have hrecord : ∀ y r, Recovers l s ((s.setHeld l y).handTest l r) ⟨[.testRecord l true r], y⟩ s.journal.nextNumber :=
    fun y r => ⟨(setHeld_hands s l y).trans (handTest_hands _ l r), by rw [handTest_restart]; rfl, by rw [handTest_journal]; rfl⟩
  unfold State.recoverTest testDuty
  dsimp only
  split
  · cases (Delivery.finishTest l true (s.heldOf l).weighed).testRun with
    | some r => exact hrecord _ r
    | none => exact recovers_nothing l s
  · split
    · cases (s.heldOf l).delivery.testRun with
      | some r => exact hrecord _ _
      | none => exact recovers_nothing l s
    · exact recovers_nothing l s

/-! ## Recovery as a whole (R177) -/

theorem heldOf_set {s t : State} {l : LineId} {y : Snapshot} (h : t.restart.held = s.restart.held.set l y) (m : LineId) :
    t.heldOf m = if m = l then y else s.heldOf m := by
  rw [State.heldOf, h, PerLine.get_set]
  rfl

theorem unheldNumber_congr {s t : State} {l : LineId} (hheld : t.heldOf l = s.heldOf l)
    (hheader : t.journal.header = s.journal.header) : t.unheldNumber l = s.unheldNumber l := by
  have hholds : ∀ n, t.journal.holdsNumber n = s.journal.holdsNumber n := fun n => by
    rw [Journal.holdsNumber, Journal.holdsNumber, hheader]
  simp only [State.unheldNumber, hholds, hheld]

/-- What the RECORDING SALE snapshot of a line is owed, the next number once raised (R177, R179). -/
def recordedOf (s : State) (l : LineId) : Duty := recordedDuty l (s.heldOf l) s.journal.nextNumber (s.unheldNumber l)

/-- The number of an open SALE of a line (R177, R178). -/
def saleNumber (s : State) : LineId → Nat
  | .a => s.journal.nextNumber
  | .b => nextAfter (recordedOf s .a).left s.journal.nextNumber

/-- What the open SALE snapshot of a line is owed. -/
def saleOf (s : State) (l : LineId) : Duty := saleDuty l (recordedOf s l).left s.restart.cause (saleNumber s l)

/-- What the TEST snapshot of a line is owed, and the snapshot that recovery leaves. -/
def testOf (s : State) (l : LineId) : Duty := testDuty l (saleOf s l).left

/-- The recovered RECORDING snapshots of the two lines, in ascending ticket number (R177). -/
def RecordedOrder (s : State) (us : List WriteUnit) : Prop :=
  (us = (recordedOf s .a).units ++ (recordedOf s .b).units ∧
    ∀ na nb, s.unheldNumber .a = some na → s.unheldNumber .b = some nb → na ≤ nb) ∨
  us = (recordedOf s .b).units ++ (recordedOf s .a).units ∧
    ∃ na nb, s.unheldNumber .a = some na ∧ s.unheldNumber .b = some nb ∧ nb < na

/-- The RECORDING snapshots of two lines recovered one after the other. -/
theorem recoverRecorded_both {l m : LineId} (hne : m ≠ l) (s : State) :
    Hands s ((s.recoverRecorded l).recoverRecorded m) ((recordedOf s l).units ++ (recordedOf s m).units) ∧
      ((s.recoverRecorded l).recoverRecorded m).restart.held =
        (s.restart.held.set l (recordedOf s l).left).set m (recordedOf s m).left ∧
      ((s.recoverRecorded l).recoverRecorded m).journal.nextNumber = s.journal.nextNumber := by
  obtain ⟨hands, hheld, hnext⟩ := recoverRecorded_recovers l s
  obtain ⟨hands', hheld', hnext'⟩ := recoverRecorded_recovers m (s.recoverRecorded l)
  have hother : (s.recoverRecorded l).heldOf m = s.heldOf m := (heldOf_set hheld m).trans (if_neg hne)
  rw [hother, hnext, unheldNumber_congr hother hands.keeps.journal.1] at hands' hheld'
  exact ⟨hands.trans hands', hheld'.trans (by rw [hheld]; rfl), hnext'.trans hnext⟩

theorem recordedSales_hands (s : State) : ∃ us, RecordedOrder s us ∧ Hands s s.recoverRecordedSales us ∧
    s.recoverRecordedSales.restart.held = ⟨(recordedOf s .a).left, (recordedOf s .b).left⟩ ∧
    s.recoverRecordedSales.journal.nextNumber = s.journal.nextNumber := by
  obtain ⟨hands, hheld, hnext⟩ := recoverRecorded_both (l := .a) (m := .b) nofun s
  obtain ⟨hands', hheld', hnext'⟩ := recoverRecorded_both (l := .b) (m := .a) nofun s
  unfold State.recoverRecordedSales
  split
  next na nb ha hb =>
    split
    next hlt => exact ⟨_, .inr ⟨rfl, na, nb, ha, hb, hlt⟩, hands', hheld', hnext'⟩
    next hle =>
      refine ⟨_, .inl ⟨rfl, fun m n hm hn => ?_⟩, hands, hheld, hnext⟩
      cases ha.symm.trans hm
      cases hb.symm.trans hn
      exact Nat.le_of_not_lt hle
  next hnone => exact ⟨_, .inl ⟨rfl, fun m n hm hn => absurd hn (hnone m n hm)⟩, hands, hheld, hnext⟩

theorem openSales_hands (s : State) :
    let dA := saleDuty .a (s.heldOf .a) s.restart.cause s.journal.nextNumber
    let dB := saleDuty .b (s.heldOf .b) s.restart.cause (nextAfter (s.heldOf .a) s.journal.nextNumber)
    let t := (s.recoverOpenSale .a).recoverOpenSale .b
    Hands s t (dA.units ++ dB.units) ∧ t.restart.held = ⟨dA.left, dB.left⟩ ∧
      t.journal.nextNumber = nextAfter (s.heldOf .b) (nextAfter (s.heldOf .a) s.journal.nextNumber) := by
  intro dA dB t
  obtain ⟨hands, hheld, hnext⟩ := recoverOpenSale_recovers .a s
  obtain ⟨hands', hheld', hnext'⟩ := recoverOpenSale_recovers .b (s.recoverOpenSale .a)
  have hother : (s.recoverOpenSale .a).heldOf .b = s.heldOf .b := (heldOf_set hheld .b).trans (if_neg nofun)
  rw [hother, hnext] at hnext'
  rw [hother, hnext, hands.keeps.restart.2.1] at hands' hheld'
  exact ⟨hands.trans hands', hheld'.trans (by rw [hheld]; rfl), hnext'⟩

theorem tests_hands (s : State) :
    let t := (s.recoverTest .a).recoverTest .b
    Hands s t ((testDuty .a (s.heldOf .a)).units ++ (testDuty .b (s.heldOf .b)).units) ∧
      t.restart.held = ⟨(testDuty .a (s.heldOf .a)).left, (testDuty .b (s.heldOf .b)).left⟩ ∧
      t.journal.nextNumber = s.journal.nextNumber := by
  intro t
  obtain ⟨hands, hheld, hnext⟩ := recoverTest_recovers .a s
  obtain ⟨hands', hheld', hnext'⟩ := recoverTest_recovers .b (s.recoverTest .a)
  have hother : (s.recoverTest .a).heldOf .b = s.heldOf .b := (heldOf_set hheld .b).trans (if_neg nofun)
  rw [hother] at hands' hheld'
  exact ⟨hands.trans hands', hheld'.trans (by rw [hheld]; rfl), hnext'.trans hnext⟩

/-- All of recovery: the units it hands over, in order, the snapshots it leaves and the next ticket number (R177). -/
theorem recover_hands (s : State) :
    let r := s.raiseNext
    ∃ us, RecordedOrder r us ∧
      Hands s s.recover (us ++ ((saleOf r .a).units ++ (saleOf r .b).units) ++ ((testOf r .a).units ++ (testOf r .b).units)) ∧
      s.recover.restart.held = ⟨(testOf r .a).left, (testOf r .b).left⟩ ∧
      s.recover.journal.nextNumber = nextAfter (recordedOf r .b).left (saleNumber r .b) := by
  intro r
  have hraise : Hands s r [] := .quiet (.setNext s _) rfl ⟨rfl, rfl⟩ rfl
  obtain ⟨us, horder, hands, hheld, hnext⟩ := recordedSales_hands r
  obtain ⟨hsales, hheld', hnext'⟩ := openSales_hands r.recoverRecordedSales
  obtain ⟨htests, hheld'', hnext''⟩ := tests_hands ((r.recoverRecordedSales.recoverOpenSale .a).recoverOpenSale .b)
  have hcause := hands.keeps.restart.2.1
  have hA : r.recoverRecordedSales.heldOf .a = (recordedOf r .a).left := by rw [State.heldOf, hheld]; rfl
  have hB : r.recoverRecordedSales.heldOf .b = (recordedOf r .b).left := by rw [State.heldOf, hheld]; rfl
  rw [hA, hB, hnext, hcause] at hsales hheld'
  rw [hA, hB, hnext] at hnext'
  have hA' : ((r.recoverRecordedSales.recoverOpenSale .a).recoverOpenSale .b).heldOf .a = (saleOf r .a).left := by
    rw [State.heldOf, hheld']
    rfl
  have hB' : ((r.recoverRecordedSales.recoverOpenSale .a).recoverOpenSale .b).heldOf .b = (saleOf r .b).left := by
    rw [State.heldOf, hheld']
    rfl
  rw [hA', hB'] at htests hheld''
  exact ⟨us, horder, ((hraise.trans hands).trans hsales).trans htests, hheld'', hnext''.trans hnext'⟩

/-! ## How much a line is owed -/

theorem unheldNumber_recording {s : State} {l : LineId} {n : Nat} (h : s.unheldNumber l = some n) :
    (s.heldOf l).state = .recording ∧ (s.heldOf l).delivery.mode = some .sale := by
  unfold State.unheldNumber at h
  dsimp only at h
  split at h
  next hrec => exact hrec
  next => cases h

theorem isOpenWith_recording {x : Snapshot} {m : Mode} (h : x.state = .recording) : x.isOpenWith m = false := by
  rw [Snapshot.isOpenWith, h]
  rfl

/-- A line is owed at most one append (R177). -/
theorem appends_le_one (s : State) (l : LineId) :
    (recordedOf s l).units.countP isAppend + (saleOf s l).units.countP isAppend ≤ 1 := by
  unfold saleOf
  cases h : s.unheldNumber l with
  | none =>
    have hrecorded : recordedOf s l = ⟨[], s.heldOf l⟩ := by rw [recordedOf, h]; rfl
    rw [hrecorded]
    unfold saleDuty
    split
    · exact Nat.le_refl 1
    · exact Nat.zero_le 1
  | some n =>
    have hopen : (recordedOf s l).left.isOpenWith .sale = false := by
      rw [recordedOf, h]
      exact isOpenWith_recording (x := { s.heldOf l with delivery := (s.heldOf l).delivery.interruptSale })
        (unheldNumber_recording h).1
    have hrecorded : (recordedOf s l).units.countP isAppend = 1 := by rw [recordedOf, h]; rfl
    rw [hrecorded, saleDuty, hopen]
    exact Nat.le_refl 1

theorem testDuty_units (l : LineId) (x : Snapshot) : (testDuty l x).units = [] ∨ ∃ r, (testDuty l x).units = [.testRecord l true r] := by
  unfold testDuty
  repeat' split
  · exact .inr ⟨_, rfl⟩
  · exact .inl rfl
  · exact .inr ⟨_, rfl⟩
  · exact .inl rfl
  · exact .inl rfl

theorem testDuty_counts (l : LineId) (x : Snapshot) :
    (testDuty l x).units.countP isAppend = 0 ∧ (testDuty l x).units.countP isTestRecord ≤ 1 := by
  rcases testDuty_units l x with h | ⟨r, h⟩ <;> rw [h]
  · exact ⟨rfl, Nat.zero_le _⟩
  · exact ⟨rfl, Nat.le_refl _⟩

theorem recordedOf_units (s : State) (l : LineId) : (recordedOf s l).units.countP isTestRecord = 0 := by
  unfold recordedOf
  cases s.unheldNumber l <;> rfl

theorem saleOf_units (s : State) (l : LineId) : (saleOf s l).units.countP isTestRecord = 0 := by
  unfold saleOf saleDuty
  split <;> rfl

/-- Recovery counts at most two tickets and two test runs (R182). -/
theorem recover_counts (s : State) : s.recover.restart.tickets ≤ s.restart.tickets + 2 ∧
    s.recover.restart.testRuns ≤ s.restart.testRuns + 2 ∧
    s.recover.journal.pendingRecovery ≤ s.journal.pendingRecovery + 2 := by
  obtain ⟨us, horder, hands, -⟩ := recover_hands s
  have hA := appends_le_one s.raiseNext .a
  have hB := appends_le_one s.raiseNext .b
  obtain ⟨htestA, hrunA⟩ := testDuty_counts .a (saleOf s.raiseNext .a).left
  obtain ⟨htestB, hrunB⟩ := testDuty_counts .b (saleOf s.raiseNext .b).left
  have happends : us.countP isAppend = (recordedOf s.raiseNext .a).units.countP isAppend
      + (recordedOf s.raiseNext .b).units.countP isAppend := by
    rcases horder with ⟨h, -⟩ | ⟨h, -⟩ <;> rw [h, List.countP_append]
    exact Nat.add_comm _ _
  have hruns : us.countP isTestRecord = 0 := by
    rcases horder with ⟨h, -⟩ | ⟨h, -⟩ <;> rw [h, List.countP_append, recordedOf_units, recordedOf_units]
  rw [hands.tickets, hands.testRuns, hands.pending]
  simp only [List.countP_append, happends, hruns, saleOf_units, testOf] at htestA htestB hrunA hrunB ⊢
  omega

end Sys2Proof.Safety
end

section
/-! PROOF. The queues, the fault log and the counters stay within their places through every command. -/

namespace Sys2Proof.Safety

open Sys2Proof.Machine

/-! ## The engine and the fault log -/

/-- What the invariant says of the engine and of what goes in flight with a unit. -/
structure EngineInv (s : State) : Prop where
  engine : EngineOk s.restart.phase s.engine
  faults : s.faultLog.ring.length ≤ 32 ∧ s.faultLog.overflow.length ≤ 4 ∧ s.faultLog.lost ≤ 255
  units : ∀ u, inEngine s u → UnitOk u
  header : s.journal.header.transferred ≤ s.journal.header.count
  flight : ∀ x, s.engine.inFlight = some x → x.header.transferred ≤ x.header.count ∧ x.ring.length ≤ 32

theorem BuffersInv.engineInv {s : State} (h : BuffersInv s) : EngineInv s :=
  ⟨h.engine, h.faults, h.units, h.transferred.1, h.transferred.2.2⟩

/-- A change of the engine, the fault log and the calibration that keeps the engine's part of the invariant. -/
theorem BuffersInv.of_engineInv {s : State} {x : Engine} {f : FaultLog} {c : Calibration} (h : BuffersInv s)
    (hengine : EngineInv { s with engine := x, faultLog := f, cal := c }) :
    BuffersInv { s with engine := x, faultLog := f, cal := c } where
  front := h.front
  engine := hengine.engine
  faults := hengine.faults
  audit := h.audit
  plans := h.plans
  counters := h.counters
  stored := h.stored
  recovered := h.recovered
  units := hengine.units
  transferred := ⟨h.transferred.1, h.transferred.2.1, hengine.flight⟩
  ring := h.ring

section
variable {s : State} (h : EngineInv s)
include h

/-- A unit goes in flight while the engine works (R138). -/
theorem EngineInv.goInFlight {u : WriteUnit} (hu : UnitOk u) (hst : s.engine.state = .idle ∨ s.engine.state = .writing) :
    EngineInv (s.goInFlight u) := by
  obtain ⟨hplaces, -, -, -, hphase, hsaving⟩ := h.engine
  rw [goInFlight_eq]
  refine ⟨⟨hplaces, fun hidle => EngineState.noConfusion hidle, fun _ => Option.some_ne_none _, fun hended => ?_, ?_, ?_⟩, ?_,
    fun v hv => ?_, h.header, fun x hx => ?_⟩
  · rcases hended with hended | hended <;> exact EngineState.noConfusion hended
  · exact ⟨fun _ => .inr rfl, fun _ => hphase.mpr hst⟩
  · refine ⟨fun hp => ?_, fun hended => EngineState.noConfusion hended⟩
    have hboth := hsaving.mp hp
    rcases hst with hst | hst <;> rw [hst] at hboth <;> exact EngineState.noConfusion hboth
  · dsimp only
    split
    · exact ⟨by simpa using h.faults.1, h.faults.2⟩
    · exact h.faults
  · rcases hv with hqueue | ⟨x, hx, rfl⟩
    · exact h.units v (.inl hqueue)
    · cases hx
      exact hu
  · cases hx
    exact ⟨h.header, by simpa using h.faults.1⟩

theorem EngineInv.hand {u : WriteUnit} (hu : UnitOk u) : EngineInv (s.hand u) := by
  cases hst : s.engine.state with
  | idle =>
    rw [hand_idle hst]
    exact h.goInFlight hu (.inl hst)
  | writing =>
    by_cases hroom : s.engine.queue.length < 4
    · rw [hand_writing hst hroom]
      obtain ⟨-, -, hwriting, -, hphase⟩ := h.engine
      refine ⟨⟨?_, fun hidle => ?_, hwriting, fun hended => ?_, hphase⟩, h.faults, fun v hv => ?_, h.header, h.flight⟩
      · rw [List.length_append, List.length_singleton]
        exact hroom
      · exact EngineState.noConfusion (hst.symm.trans hidle)
      · rcases hended with hended | hended <;> exact EngineState.noConfusion (hst.symm.trans hended)
      · rcases hv with hqueue | hflight
        · rcases List.mem_append.mp hqueue with hold | hnew
          · exact h.units v (.inl hold)
          · rw [List.mem_singleton.mp hnew]
            exact hu
        · exact h.units v (.inr hflight)
    · rw [hand_full hst (Nat.le_of_not_lt hroom)]
      exact h
  | saving =>
    rw [hand_ended (.inl hst)]
    exact h
  | stopped =>
    rw [hand_ended (.inr hst)]
    exact h

/-- An engine with nothing left (R138, R144). -/
theorem EngineInv.emptied {st : EngineState} (hne : st ≠ .writing)
    (hphase : ((s.restart.phase = .running ∨ s.restart.phase = .starting) ↔ (st = .idle ∨ st = .writing))
      ∧ (s.restart.phase = .saving ↔ st = .saving)) : EngineInv { s with engine := ⟨st, none, []⟩ } := by
  refine ⟨⟨Nat.zero_le _, fun _ => ⟨rfl, rfl⟩, fun hw => absurd hw hne, fun _ => rfl, hphase⟩, h.faults, fun v hv => ?_,
    h.header, fun x hx => nomatch hx⟩
  rcases hv with hv | ⟨x, hx, -⟩
  · nomatch hv
  · nomatch hx

/-- The engine after a completion (R138, R144). -/
theorem EngineInv.engineNext : EngineInv s.engineNext := by
  obtain ⟨hplaces, hidle, hwriting, hended, hphase⟩ := h.engine
  cases hst : s.engine.state with
  | idle =>
    have hnext : s.engineNext = { s with engine := ⟨.idle, none, []⟩ } := by
      simp only [State.engineNext, hst, (hidle hst).2]
    rw [hst] at hphase
    rw [hnext]
    exact h.emptied nofun hphase
  | writing =>
    cases hqueue : s.engine.queue with
    | nil =>
      rw [engineNext_empty hst hqueue]
      rw [hst] at hphase
      obtain ⟨hphase, hsaving⟩ := hphase
      exact h.emptied nofun ⟨⟨fun _ => .inl rfl, fun _ => hphase.mpr (.inr rfl)⟩,
        fun hp => EngineState.noConfusion (hsaving.mp hp), fun hs => EngineState.noConfusion hs⟩
    | cons v q =>
      rw [engineNext_queued hst hqueue]
      rw [hqueue, List.length_cons] at hplaces
      have hrest : EngineInv { s with engine := { s.engine with queue := q } } := by
        refine ⟨⟨Nat.le_of_succ_le hplaces, fun hi => EngineState.noConfusion (hst.symm.trans hi), hwriting, fun he => ?_, hphase⟩,
          h.faults, fun u hu => ?_, h.header, h.flight⟩
        · rcases he with he | he <;> exact EngineState.noConfusion (hst.symm.trans he)
        · rcases hu with hu | hu
          · exact h.units u (.inl (hqueue ▸ List.mem_cons_of_mem v hu))
          · exact h.units u (.inr hu)
      exact hrest.goInFlight (h.units v (.inl (hqueue ▸ List.mem_cons_self))) (.inr hst)
  | saving =>
    have hnext : s.engineNext = { s with engine := ⟨.saving, none, []⟩ } := by
      rw [engineNext_ended (.inl hst)]
      dsimp only
      rw [hended (.inl hst), hst]
    rw [hst] at hphase
    rw [hnext]
    exact h.emptied nofun hphase
  | stopped =>
    have hnext : s.engineNext = { s with engine := ⟨.stopped, none, []⟩ } := by
      rw [engineNext_ended (.inr hst)]
      dsimp only
      rw [hended (.inr hst), hst]
    rw [hst] at hphase
    rw [hnext]
    exact h.emptied nofun hphase

/-- A log within its places (R200). -/
theorem EngineInv.withLog {f : FaultLog} (hf : f.ring.length ≤ 32 ∧ f.overflow.length ≤ 4 ∧ f.lost ≤ 255) :
    EngineInv { s with faultLog := f } := ⟨h.engine, hf, h.units, h.header, h.flight⟩

theorem EngineInv.handFaultLog : EngineInv s.handFaultLog :=
  EngineInv.hand (s := { s with faultLog := { s.faultLog with outstanding := some .queued } }) (h.withLog h.faults) trivial

theorem EngineInv.logFault (e : FaultEntry) : EngineInv (s.logFault e) := by
  obtain ⟨hring, hover, hlost⟩ := h.faults
  unfold State.logFault
  dsimp only
  split
  · exact EngineInv.handFaultLog (h.withLog ⟨(joinRing_length _ _).trans (max_le (Nat.le_refl _) hring), hover, hlost⟩)
  · split
    next hroom =>
      refine h.withLog ⟨hring, ?_, hlost⟩
      rw [List.length_append, List.length_singleton]
      exact hroom
    next =>
      refine h.withLog ⟨hring, hover, ?_⟩
      rw [bump_eq]
      exact Nat.min_le_left _ _

theorem EngineInv.placeFree : EngineInv s.placeFree := by
  obtain ⟨hring, -, hlost⟩ := h.faults
  have hjoined : ∀ (es : List FaultEntry) (r : List RingEntry), r.length ≤ 32 → (es.foldl joinRing r).length ≤ 32 := by
    intro es
    induction es with
    | nil => exact fun _ hr => hr
    | cons e es ih => exact fun r hr => ih _ ((joinRing_length _ _).trans (max_le (Nat.le_refl _) hr))
  unfold State.placeFree State.offerFaultLog
  dsimp only
  split
  · split
    · exact EngineInv.handFaultLog (h.withLog ⟨hjoined _ _ hring, Nat.zero_le _, hlost⟩)
    · exact h
  · exact h

end

theorem hand_form (s : State) (u : WriteUnit) :
    s.hand u = { s with engine := (s.hand u).engine, faultLog := (s.hand u).faultLog, cal := (s.hand u).cal } := by
  unfold State.hand
  split
  · rfl
  · split <;> rfl
  · rfl
  · rfl

theorem placeFree_form (s : State) :
    s.placeFree = { s with engine := s.placeFree.engine, faultLog := s.placeFree.faultLog, cal := s.placeFree.cal } := by
  unfold State.placeFree State.offerFaultLog
  dsimp only
  split
  · split
    · rw [handFaultLog_form]
    · rfl
  · rfl

theorem engineNext_form (s : State) :
    s.engineNext = { s with engine := s.engineNext.engine, faultLog := s.engineNext.faultLog, cal := s.engineNext.cal } := by
  unfold State.engineNext
  repeat' split
  all_goals rfl

section
variable {s : State} (h : BuffersInv s)
include h

theorem BuffersInv.hand {u : WriteUnit} (hu : UnitOk u) : BuffersInv (s.hand u) := by
  have hengine := h.engineInv.hand hu
  rw [hand_form] at hengine ⊢
  exact h.of_engineInv hengine

theorem BuffersInv.placeFree : BuffersInv s.placeFree := by
  have hengine := h.engineInv.placeFree
  rw [placeFree_form] at hengine ⊢
  exact h.of_engineInv hengine

theorem BuffersInv.engineNext : BuffersInv s.engineNext := by
  have hengine := h.engineInv.engineNext
  rw [engineNext_form] at hengine ⊢
  exact h.of_engineInv hengine

theorem BuffersInv.logFault (e : FaultEntry) : BuffersInv (s.logFault e) := by
  have hengine := h.engineInv.logFault e
  rw [logFault_form] at hengine ⊢
  exact h.of_engineInv (c := s.cal) hengine

end

/-! ## The link fronts -/

theorem enqueue_lost_le {room : Nat} {x : TxFrame} {f : LinkFront} (h : f.lost ≤ 255) : (f.enqueue room x).lost ≤ 255 := by
  have hbump : bump 255 f.lost ≤ 255 := by
    rw [bump_eq]
    exact Nat.min_le_left _ _
  unfold LinkFront.enqueue
  repeat' split
  · exact h
  · exact hbump
  · exact hbump
  · exact h
  · exact h
  · exact h

theorem enqueue_silent (room : Nat) (x : TxFrame) (f : LinkFront) :
    (f.enqueue room x).sending = f.sending ∧ (f.enqueue room x).request = f.request := by
  unfold LinkFront.enqueue
  repeat' split
  all_goals exact ⟨rfl, rfl⟩

theorem startNext_transmits (f : LinkFront) (h : f.startNext.sending = none) : f.startNext.queue = [] := by
  obtain ⟨rx, request, queue, sending, lost⟩ := f
  cases sending with
  | some x => nomatch h
  | none =>
    cases queue with
    | nil => rfl
    | cons x q => nomatch h

theorem startNext_lost (f : LinkFront) : f.startNext.lost = f.lost := by
  unfold LinkFront.startNext
  split <;> rfl

/-- A front of a running part whose next waiting frame starts (R191). -/
theorem frontOk_startNext {f : LinkFront} (hroom : f.queue.length ≤ 8) (hlost : f.lost ≤ 255) : FrontOk .running f.startNext where
  room := ⟨(LinkFront.startNext_length f).trans hroom, (startNext_lost f).le.trans hlost⟩
  kept h := Phase.noConfusion h
  ended h := h.elim (fun h => Phase.noConfusion h) (fun h => Phase.noConfusion h)
  transmits _ := startNext_transmits f
  silent h := absurd rfl h

theorem FrontOk.place {ph : Phase} {f : LinkFront} (h : FrontOk ph f) (x : TxFrame) : FrontOk ph (f.place ph x) := by
  obtain ⟨hroom, hlost⟩ := h.room
  cases ph with
  | running => exact frontOk_startNext ((LinkFront.enqueue_length 8 x f).trans (max_le (Nat.le_refl _) hroom)) (enqueue_lost_le hlost)
  | starting =>
    have hlength : (f.enqueue 7 x).queue.length ≤ 7 := (LinkFront.enqueue_length 7 x f).trans (max_le (Nat.le_refl _) (h.kept rfl))
    obtain ⟨hsending, hrequest⟩ := enqueue_silent 7 x f
    refine ⟨⟨hlength.trans (by decide), enqueue_lost_le hlost⟩, fun _ => hlength, fun he => ?_, fun hr => Phase.noConfusion hr,
      fun hne => ?_⟩
    · exact he.elim (fun h => Phase.noConfusion h) (fun h => Phase.noConfusion h)
    · rw [LinkFront.place, hsending, hrequest]
      exact h.silent hne
  | saving => exact h
  | stopped => exact h

theorem FrontOk.step {ph : Phase} {f g : LinkFront} (h : FrontOk ph f) (hstep : FrontStep ph f g) : FrontOk ph g := by
  cases hstep with
  | rx r => exact ⟨h.room, h.kept, h.ended, h.transmits, h.silent⟩
  | place x => exact h.place x
  | ask k body hrun => exact ⟨h.room, h.kept, h.ended, h.transmits, fun hne => absurd hrun hne⟩
  | transmitted hrun =>
    subst hrun
    unfold LinkFront.transmitted
    split
    · exact h
    · exact frontOk_startNext h.room.1 h.room.2

/-! ## What an owner's work and an event keep -/

theorem fronts_set {ph : Phase} {x : PerLink LinkFront} {link : Link} {f : LinkFront} (h : ∀ k, FrontOk ph (x.get k))
    (hf : FrontOk ph f) (k : Link) : FrontOk ph ((x.set link f).get k) := by
  rw [PerLink.get_set]
  split
  · exact hf
  · exact h k

theorem BuffersInv.setFront {s : State} {link : Link} {f : LinkFront} (h : BuffersInv s) (hf : FrontOk s.restart.phase f) :
    BuffersInv (s.setFront link f) :=
  ⟨fronts_set h.front hf, h.engine, h.faults, h.audit, h.plans, h.counters, h.stored, h.recovered, h.units, h.transferred, h.ring⟩

theorem setPlan_plan (s : State) (n m : PlanNo) (ts : List Tier) : (s.setPlan n ts).plan m = if m = n then ts else s.plan m := by
  simp only [State.plan, State.setPlan, Fin.getElem_fin, Vector.getElem_set, Fin.ext_iff, eq_comm]

theorem survives_buffersInv : Survives BuffersInv where
  lines _ _ h := ⟨h.front, h.engine, h.faults, h.audit, h.plans, h.counters, h.stored, h.recovered, h.units, h.transferred, h.ring⟩
  cal _ _ h := ⟨h.front, h.engine, h.faults, h.audit, h.plans, h.counters, h.stored, h.recovered, h.units, h.transferred, h.ring⟩
  slots _ _ h := ⟨h.front, h.engine, h.faults, h.audit, h.plans, h.counters, h.stored, h.recovered, h.units, h.transferred, h.ring⟩
  journal s j hpending htransferred h :=
    ⟨h.front, h.engine, h.faults, h.audit, h.plans, h.counters, h.stored, by rw [hpending]; exact h.recovered, h.units,
      ⟨htransferred h.transferred.1, h.transferred.2⟩, h.ring⟩
  log _ e h := h.logFault e
  hand _ _ hu h := h.hand hu
  lost s link h := h.setFront ⟨⟨(h.front link).room.1, Nat.zero_le _⟩, (h.front link).kept, (h.front link).ended,
    (h.front link).transmits, (h.front link).silent⟩
  plan s n ts hts h :=
    ⟨h.front, h.engine, h.faults, h.audit, fun m => by
      rw [setPlan_plan]
      split
      · exact hts
      · exact h.plans m, h.counters, h.stored, h.recovered, h.units, h.transferred, h.ring⟩
  counter s h :=
    ⟨h.front, h.engine, h.faults, h.audit, h.plans, ⟨by
      rw [nextSequence, bump_eq]
      exact Nat.min_le_left _ _, h.counters.2⟩, h.stored, h.recovered, h.units, h.transferred, h.ring⟩
  clock _ _ _ ht h := ⟨h.front, h.engine, h.faults, h.audit, h.plans, ⟨h.counters.1, ht⟩, h.stored, h.recovered, h.units,
    h.transferred, h.ring⟩
  cleared s h := BuffersInv.placeFree (s := { s with
      faultLog := { s.faultLog with ring := [], overflow := [], lost := 0, wanted := true } })
    ⟨h.front, h.engine, ⟨Nat.zero_le _, Nat.zero_le _, Nat.zero_le _⟩, h.audit, h.plans, h.counters, h.stored, h.recovered, h.units,
      h.transferred, h.ring⟩
  front s link f hstep h := h.setFront ((h.front link).step hstep)
  outputs _ _ _ h := ⟨h.front, h.engine, h.faults, h.audit, h.plans, h.counters, h.stored, h.recovered, h.units, h.transferred, h.ring⟩
  inputs _ _ _ h := ⟨h.front, h.engine, h.faults, h.audit, h.plans, h.counters, h.stored, h.recovered, h.units, h.transferred, h.ring⟩

/-! ## Completions -/

/-- The trail with one entry more (R158). -/
theorem audited_places {st : Store} (e : AuditEntry) (h : st.audit.length ≤ 64 ∧ 1 ≤ st.auditOldest ∧ st.auditOldest ≤ 4294967295
      ∧ (st.audit.length < 64 → st.auditOldest = 1)) :
    (st.audited e).audit.length ≤ 64 ∧ 1 ≤ (st.audited e).auditOldest ∧ (st.audited e).auditOldest ≤ 4294967295
      ∧ ((st.audited e).audit.length < 64 → (st.audited e).auditOldest = 1) := by
  obtain ⟨hlength, hleast, hmost, hfirst⟩ := h
  unfold Store.audited
  split
  next hroom =>
    dsimp only
    rw [List.length_append, List.length_singleton]
    exact ⟨hroom, hleast, hmost, fun _ => hfirst hroom⟩
  next hfull =>
    have hnext : 1 ≤ auditNext st.auditOldest ∧ auditNext st.auditOldest ≤ 4294967295 := by
      unfold auditNext max32
      split <;> omega
    dsimp only
    rw [List.length_append, List.length_singleton, List.length_drop]
    exact ⟨by omega, hnext.1, hnext.2, fun hlt => by omega⟩

theorem audited_other (st : Store) (e : AuditEntry) : (st.audited e).eventCounter = st.eventCounter ∧
    (st.audited e).interruptions = st.interruptions ∧ (st.audited e).header = st.header ∧ (st.audited e).ring = st.ring := by
  unfold Store.audited
  split <;> exact ⟨rfl, rfl, rfl, rfl⟩

/-- A store with one entry more in its trail, and a counter within its range. -/
theorem BuffersInv.withStore {s : State} {st : Store} (h : BuffersInv s)
    (haudit : st.audit.length ≤ 64 ∧ 1 ≤ st.auditOldest ∧ st.auditOldest ≤ 4294967295 ∧ (st.audit.length < 64 → st.auditOldest = 1))
    (hstored : st.eventCounter ≤ 999999 ∧ st.interruptions ≤ 65535) (hheader : st.header.transferred ≤ st.header.count)
    (hring : st.ring.length ≤ 32) : BuffersInv { s with store := st } :=
  ⟨h.front, h.engine, h.faults, haudit, h.plans, h.counters, hstored, h.recovered, h.units,
    ⟨h.transferred.1, hheader, h.transferred.2.2⟩, hring⟩

section
variable {s : State} (h : BuffersInv s) {x : InFlight} (hx : s.engine.inFlight = some x)
include h hx

theorem BuffersInv.takeAppend (recovery : Bool) (next : Nat) (ticket : List Byte) :
    BuffersInv (s.takeAppend recovery next ticket x.header x.marks) := by
  obtain ⟨hjournal, -, hflight⟩ := h.transferred
  obtain ⟨hinterruptions, htickets, hruns, hpending⟩ := h.recovered
  refine ⟨h.front, h.engine, h.faults, h.audit, h.plans, h.counters, h.stored, ⟨hinterruptions, htickets, hruns, ?_⟩, h.units,
    ⟨Nat.le_succ_of_le hjournal, Nat.le_succ_of_le (hflight x hx).1, hflight⟩, h.ring⟩
  change (if recovery then s.journal.pendingRecovery - 1 else s.journal.pendingRecovery) ≤ 2
  split <;> omega

theorem BuffersInv.takeCalibration {c : CalRecord} {check checksum : Check} {counter : Nat} {e : AuditEntry}
    (hunit : x.unit = .calibration c check checksum counter e) : BuffersInv (s.takeCalibration c check checksum counter e) := by
  have hcounter : counter ≤ 999999 := h.units (.calibration c check checksum counter e) (.inr ⟨x, hx, hunit⟩)
  let st : Store := { s.store with
    records := s.store.records.put true c
    sealed := s.store.sealed.put true c
    checksum := checksum
    checksumSealed := checksum
    eventCounter := counter }
  obtain ⟨hevents, hinterruptions, hheader, hring⟩ := audited_other st e
  have hstore : BuffersInv { s with store := st.audited e } :=
    h.withStore (audited_places e h.audit) ⟨by rw [hevents]; exact hcounter, by rw [hinterruptions]; exact h.stored.2⟩
      (by rw [hheader]; exact h.transferred.2.1) (by rw [hring]; exact h.ring)
  exact survives_buffersInv.cal _ _ hstore

omit hx in
theorem BuffersInv.takeTestRecord (l : LineId) (run : TestRun) : BuffersInv (s.takeTestRecord l run) := by
  obtain ⟨hevents, hinterruptions, hheader, hring⟩ := audited_other s.store (.testRun run)
  have hstore : BuffersInv { s with store := s.store.audited (.testRun run) } :=
    h.withStore (audited_places _ h.audit) ⟨by rw [hevents]; exact h.stored.1, by rw [hinterruptions]; exact h.stored.2⟩
      (by rw [hheader]; exact h.transferred.2.1) (by rw [hring]; exact h.ring)
  unfold State.takeTestRecord
  split
  · exact hstore
  · exact ⟨hstore.front, hstore.engine, hstore.faults, hstore.audit, hstore.plans, hstore.counters, hstore.stored,
      hstore.recovered, hstore.units, hstore.transferred, hstore.ring⟩

theorem BuffersInv.takeUpdate {n : Nat} {marks : BitVec 256} (hunit : x.unit = .restartUpdate n marks) :
    BuffersInv (s.takeUpdate n marks) :=
  h.withStore h.audit ⟨h.stored.1, h.units (.restartUpdate n marks) (.inr ⟨x, hx, hunit⟩)⟩ h.transferred.2.1 h.ring

theorem BuffersInv.takeFaultLog : BuffersInv (s.takeFaultLog x.ring) := by
  obtain ⟨hring, hrest⟩ := h.faults
  have hlog : BuffersInv { s with faultLog := s.faultLog.written x.ring.length } :=
    h.of_engineInv (x := s.engine) (c := s.cal) (h.engineInv.withLog ⟨by simpa [FaultLog.written] using hring, hrest⟩)
  exact hlog.withStore h.audit h.stored h.transferred.2.1 (h.transferred.2.2 x hx).2

end

/-! ## The restart -/

theorem BuffersInv.takeRestart {s : State} (h : BuffersInv s) (c : RestartCause) : BuffersInv (s.takeRestart c) := by
  have hcut : ∀ f : LinkFront, FrontOk s.restart.phase f → FrontOk .saving f.cut := fun f hf =>
    ⟨⟨Nat.zero_le _, hf.room.2⟩, fun hp => Phase.noConfusion hp, fun _ => rfl, fun hp => Phase.noConfusion hp, fun _ => ⟨rfl, rfl⟩⟩
  have hpath : BuffersInv (s.restartPath c) := by
    refine ⟨fun link => ?_, ?_, h.faults, h.audit, h.plans, h.counters, h.stored, h.recovered, fun u hu => ?_, h.transferred, h.ring⟩
    · have hfront := hcut _ (h.front link)
      cases link <;> exact hfront
    · exact ⟨Nat.zero_le _, fun hi => EngineState.noConfusion hi, fun hw => EngineState.noConfusion hw, fun _ => rfl,
        ⟨fun hp => hp.elim (fun h => Phase.noConfusion h) (fun h => Phase.noConfusion h),
          fun he => he.elim (fun h => EngineState.noConfusion h) (fun h => EngineState.noConfusion h)⟩, fun _ => rfl, fun _ => rfl⟩
    · rcases hu with hu | hu
      · nomatch hu
      · exact h.units u (.inr hu)
  unfold State.takeRestart
  split
  · exact hpath
  · exact hpath
  · exact h
  · exact h

theorem BuffersInv.writeSave {s : State} (h : BuffersInv s) (hphase : s.restart.phase = .saving) : BuffersInv s.writeSave := by
  have hqueue : s.engine.queue = [] := h.engine.ended (.inl (h.engine.phase.2.mp hphase))
  refine ⟨fun link => ?_, ?_, h.faults, h.audit, h.plans, h.counters, h.stored, h.recovered, fun u hu => ?_,
    ⟨h.transferred.1, h.transferred.1, h.transferred.2.2⟩, h.ring⟩
  · obtain ⟨hroom, -, hended, -, hsilent⟩ := h.front link
    exact ⟨hroom, fun hp => Phase.noConfusion hp, fun _ => hended (.inl hphase), fun hp => Phase.noConfusion hp,
      fun _ => hsilent (by rw [hphase]; nofun)⟩
  · exact ⟨h.engine.places, fun hi => EngineState.noConfusion hi, fun hw => EngineState.noConfusion hw, fun _ => hqueue,
      ⟨fun hp => hp.elim (fun h => Phase.noConfusion h) (fun h => Phase.noConfusion h),
        fun he => he.elim (fun h => EngineState.noConfusion h) (fun h => EngineState.noConfusion h)⟩,
      fun hp => Phase.noConfusion hp, fun he => EngineState.noConfusion he⟩
  · rcases hu with hu | hu
    · exact h.units u (.inl hu)
    · exact h.units u (.inr hu)

theorem BuffersInv.beginStartUp {s : State} (h : BuffersInv s) (hphase : s.restart.phase = .stopped) : BuffersInv s.beginStartUp := by
  obtain ⟨hinterruptions, -, -, hpending⟩ := h.recovered
  refine ⟨fun link => ?_, ?_, ⟨by simpa [State.beginStartUp] using h.ring, Nat.zero_le _, Nat.zero_le _⟩, h.audit, h.plans, h.counters,
    h.stored, ⟨hinterruptions, Nat.zero_le _, Nat.zero_le _, hpending⟩, fun u hu => ?_,
    ⟨h.transferred.1, h.transferred.2.1, fun x hx => nomatch hx⟩, h.ring⟩
  · obtain ⟨hroom, -, hended, -, hsilent⟩ := h.front link
    have hempty := hended (.inr hphase)
    exact ⟨hroom, fun _ => by rw [State.front] at hempty; change (s.links.get link).queue.length ≤ 7; rw [hempty]; exact Nat.zero_le _,
      fun _ => hempty, fun hp => Phase.noConfusion hp, fun _ => hsilent (by rw [hphase]; nofun)⟩
  · exact ⟨Nat.zero_le _, fun _ => ⟨rfl, rfl⟩, fun hw => EngineState.noConfusion hw, fun _ => rfl,
      ⟨fun _ => .inl rfl, fun _ => .inr rfl⟩, fun hp => Phase.noConfusion hp, fun he => EngineState.noConfusion he⟩
  · rcases hu with hu | ⟨x, hx, -⟩
    · nomatch hu
    · nomatch hx

theorem stable_recovered (tickets runs pending : Nat) : Stable (fun s => s.restart.tickets = tickets ∧ s.restart.testRuns = runs
    ∧ s.journal.pendingRecovery = pending) where
  lines _ _ h := h
  cal _ _ h := h
  slots _ _ h := h
  journal _ _ hpending _ h := ⟨h.1, h.2.1, hpending.trans h.2.2⟩
  log s e h := by rwa [State.logFault_restart, State.logFault_journal]
  hand s u _ h := by rwa [State.hand_restart, State.hand_journal]

theorem BuffersInv.loadSave {s : State} (h : BuffersInv s) : BuffersInv s.loadSave := by
  obtain ⟨hinterruptions, htickets, hruns, -⟩ := h.recovered
  exact ⟨h.front, h.engine, h.faults, h.audit, h.plans, h.counters, h.stored,
    ⟨hinterruptions, htickets, hruns, Nat.zero_le _⟩, h.units, ⟨h.transferred.2.1, h.transferred.2⟩, h.ring⟩

/-! ## Recovery and the end of start-up -/

section
variable {s : State} (h : EngineInv s)
include h

theorem EngineInv.setHeld (l : LineId) (x : Snapshot) : EngineInv (s.setHeld l x) :=
  ⟨h.engine, h.faults, h.units, h.header, h.flight⟩

theorem EngineInv.setNext (n : Nat) : EngineInv { s with journal := { s.journal with nextNumber := n } } :=
  ⟨h.engine, h.faults, h.units, h.header, h.flight⟩

theorem EngineInv.handAppend (l : LineId) (n : Nat) (ticket : List Byte) : EngineInv (s.handAppend l n ticket) :=
  EngineInv.hand (s := { s with
    journal := { s.journal with pendingRecovery := s.journal.pendingRecovery + 1 }
    restart := { s.restart with tickets := s.restart.tickets + 1 } })
    ⟨h.engine, h.faults, h.units, h.header, h.flight⟩ trivial

theorem EngineInv.handTest (l : LineId) (run : TestRun) : EngineInv (s.handTest l run) :=
  EngineInv.hand (s := { s with restart := { s.restart with testRuns := s.restart.testRuns + 1 } })
    ⟨h.engine, h.faults, h.units, h.header, h.flight⟩ trivial

theorem EngineInv.recoverRecorded (l : LineId) : EngineInv (s.recoverRecorded l) := by
  unfold State.recoverRecorded
  split
  · exact h
  · exact (h.setHeld _ _).handAppend _ _ _

theorem EngineInv.recoverOpenSale (l : LineId) : EngineInv (s.recoverOpenSale l) := by
  unfold State.recoverOpenSale
  dsimp only
  split
  · exact ((h.setNext _).setHeld _ _).handAppend _ _ _
  · exact h

theorem EngineInv.recoverTest (l : LineId) : EngineInv (s.recoverTest l) := by
  unfold State.recoverTest
  dsimp only
  repeat' split
  · exact (h.setHeld _ _).handTest _ _
  · exact h
  · exact (h.setHeld _ _).handTest _ _
  · exact h
  · exact h

theorem EngineInv.recover : EngineInv s.recover := by
  have hrecorded : EngineInv s.raiseNext.recoverRecordedSales := by
    have hraised : EngineInv s.raiseNext := h.setNext _
    unfold State.recoverRecordedSales
    repeat' split
    · exact (hraised.recoverRecorded .b).recoverRecorded .a
    · exact (hraised.recoverRecorded .a).recoverRecorded .b
    · exact (hraised.recoverRecorded .a).recoverRecorded .b
  exact (((hrecorded.recoverOpenSale .a).recoverOpenSale .b).recoverTest .a).recoverTest .b

end

/-- Recovery from nothing recovered (R177, R182). -/
theorem BuffersInv.recover {s : State} (h : BuffersInv s)
    (hnothing : s.restart.tickets = 0 ∧ s.restart.testRuns = 0 ∧ s.journal.pendingRecovery = 0) : BuffersInv s.recover := by
  obtain ⟨-, -, -, -, -, horders, hplans, -, -, hlinks, hstore, -, hrestart⟩ := RecoveryKeeps.recover s
  obtain ⟨hphase, -, hinterruptions, htime, -⟩ := hrestart
  obtain ⟨htickets, hruns, hpending⟩ := recover_counts s
  obtain ⟨hengine, hfaults, hunits, hheader, hflight⟩ := h.engineInv.recover
  rw [hnothing.1] at htickets
  rw [hnothing.2.1] at hruns
  rw [hnothing.2.2] at hpending
  refine ⟨fun link => ?_, hengine, hfaults, ?_, fun n => ?_, ?_, ?_, ⟨?_, htickets, hruns, hpending⟩, hunits,
    ⟨hheader, ?_, hflight⟩, ?_⟩
  · rw [hphase, State.front, hlinks]
    exact h.front link
  · rw [hstore]
    exact h.audit
  · rw [State.plan, hplans]
    exact h.plans n
  · rw [horders, htime]
    exact h.counters
  · rw [hstore]
    exact h.stored
  · rw [hinterruptions]
    exact h.recovered.1
  · rw [hstore]
    exact h.transferred.2.1
  · rw [hstore]
    exact h.ring

theorem BuffersInv.countInterruption {s : State} (h : BuffersInv s) (found : BitVec 256) : BuffersInv (s.countInterruption found) := by
  have hnumber : bump 65535 s.store.interruptions ≤ 65535 := by
    rw [bump_eq]
    exact Nat.min_le_left _ _
  obtain ⟨-, htickets, hruns, hpending⟩ := h.recovered
  exact BuffersInv.hand (s := { s with restart := { s.restart with interruptions := bump 65535 s.store.interruptions } })
    ⟨h.front, h.engine, h.faults, h.audit, h.plans, h.counters, h.stored, ⟨hnumber, htickets, hruns, hpending⟩, h.units,
      h.transferred, h.ring⟩ hnumber

theorem BuffersInv.startUp {w : Work} (h : BuffersInv w.st) (hphase : w.st.restart.phase = .stopped) : BuffersInv w.startUp.st := by
  have hstable := survives_buffersInv.toStable
  have hloaded : BuffersInv (w.mapSt State.beginStartUp).loadAll.st :=
    hstable.loadAll (w := w.mapSt State.beginStartUp) (h.beginStartUp hphase)
  obtain ⟨htickets, hruns, -⟩ := (stable_recovered 0 0 w.st.journal.pendingRecovery).loadAll (w := w.mapSt State.beginStartUp)
    ⟨rfl, rfl, rfl⟩
  have hsave : BuffersInv (loadedSave w).st := hloaded.loadSave
  have hchecked : BuffersInv (loadedSave w).checkJournal.st := hstable.checkJournal hsave
  have hnothing := (stable_recovered 0 0 0).checkJournal (w := loadedSave w) ⟨htickets, hruns, rfl⟩
  have hrecovered : BuffersInv (Safety.recovered w).st := by
    rw [Safety.recovered, mapSt_st]
    exact hchecked.recover hnothing
  rw [startUp_st]
  exact (hstable.interruptedEntry (hstable.interruptedEntry hrecovered)).countInterruption _

theorem frontOk_opened {x : TxFrame} {f : LinkFront} (h : FrontOk .starting f) : FrontOk .running (f.opened x) := by
  refine frontOk_startNext ?_ (Nat.zero_le _)
  change (x :: f.queue).length ≤ 8
  rw [List.length_cons]
  exact Nat.succ_le_succ (h.kept rfl)

theorem BuffersInv.finishStartUp {w : Work} (h : BuffersInv w.st) (hphase : w.st.restart.phase = .starting) :
    BuffersInv w.finishStartUp.st := by
  have hsettled : BuffersInv (w.mapSt State.settleBlocks).st := by
    obtain ⟨hinterruptions, htickets, hruns, -⟩ := h.recovered
    refine ⟨h.front, h.engine, ⟨h.faults.1, Nat.zero_le _, Nat.zero_le _⟩, h.audit, fun n => ?_, ⟨Nat.zero_le _, h.counters.2⟩, h.stored,
      ⟨hinterruptions, htickets, hruns, Nat.zero_le _⟩, h.units, h.transferred, h.ring⟩
    simp [State.settleBlocks, State.plan]
  have hinputs : BuffersInv (w.mapSt State.settleBlocks).takeInputs.st := survives_buffersInv.toStable.takeInputs hsettled
  have hstarting : (w.mapSt State.settleBlocks).takeInputs.st.restart.phase = .starting :=
    ((survives_sameSaves w.st).toStable.takeInputs (w := w.mapSt State.settleBlocks) ⟨rfl, rfl, rfl⟩).1.trans hphase
  have hsent := survives_buffersInv.sendNotices (ns := (w.mapSt State.settleBlocks).takeInputs.notes) hinputs
  have hsentPhase : ((w.mapSt State.settleBlocks).takeInputs.st.sendNotices
      (w.mapSt State.settleBlocks).takeInputs.notes).restart.phase = .starting := by
    rw [State.sendNotices_restart]
    exact hstarting
  have hopened : ∀ s : State, BuffersInv s → s.restart.phase = .starting → BuffersInv s.openLinks := by
    intro s hs hst
    refine ⟨fun link => ?_, ?_, hs.faults, hs.audit, hs.plans, ⟨hs.counters.1, show 0 < 4294967296 by decide⟩, hs.stored, hs.recovered, hs.units,
      hs.transferred, hs.ring⟩
    · have hfront := hs.front link
      rw [hst] at hfront
      have hopen := frontOk_opened (x := s.startUpFrame) hfront
      cases link <;> exact hopen
    · obtain ⟨hplaces, hidle, hwriting, hended, hphases, hsaving⟩ := hs.engine
      rw [hst] at hphases hsaving
      exact ⟨hplaces, hidle, hwriting, hended, ⟨fun _ => hphases.mp (.inr rfl), fun _ => .inl rfl⟩,
        fun hp => Phase.noConfusion hp, fun he => Phase.noConfusion (hsaving.mpr he)⟩
  exact hopened _ hsent hsentPhase

/-! ## Settled: the invariant -/

theorem BuffersInv.completes {take : InFlight → Option (Work → Work)} {s : State} (h : BuffersInv s)
    (htake : ∀ x f, s.engine.inFlight = some x → take x = some f → BuffersInv (f ⟨s, []⟩).st) :
    ∃ u, completion take s = .next (State.drive u) ∧ BuffersInv u :=
  completion_keeps survives_buffersInv (fun _ h => h.engineNext.placeFree) htake h

/-- Every command keeps the invariant. -/
theorem BuffersInv.exec {s : State} (h : BuffersInv s) (c : Instr) : ∃ u, exec c s = .next (State.drive u) ∧ BuffersInv u := by
  have hP := survives_buffersInv
  by_cases hc : isCalm c = true
  · exact hP.exec hc h
  cases c with
  | powerFailWarning =>
    change ∃ u, execPowerFailWarning s = _ ∧ _
    unfold execPowerFailWarning
    exact hP.eventSt (fun s h => (hP.inputs s { s.inputs with powerFail := true } s.estopHold h).takeRestart .power) h
  | resetAsserted =>
    change ∃ u, execResetAsserted s = _ ∧ _
    unfold execResetAsserted
    exact hP.eventSt (fun s h => (hP.inputs s { s.inputs with reset := true } s.estopHold h).takeRestart .reset) h
  | restartSaveWritten =>
    change ∃ u, execRestartSaveWritten s = _ ∧ _
    unfold execRestartSaveWritten
    refine hP.eventSt (fun s h => ?_) h
    split
    next hsaved => exact h.writeSave hsaved.1
    next => exact h
  | startUpSequence =>
    change ∃ u, execStartUpSequence s = _ ∧ _
    unfold execStartUpSequence
    refine hP.event (fun w hw => ?_) h
    split
    next hstart =>
      simp only [State.canStart, Bool.and_eq_true, beq_iff_eq] at hstart
      exact hw.startUp hstart.1.1
    next => exact hw
  | startUpFinish =>
    change ∃ u, execStartUpFinish s = _ ∧ _
    unfold execStartUpFinish
    refine hP.event (fun w hw => ?_) h
    split
    next hready => exact hw.finishStartUp hready.1
    next => exact hw
  | journalAppendCompletion =>
    exact h.completes (fun x f hx hf => takeAppendUnit_keeps (w := ⟨s, []⟩) hP.toStable hf (fun _ r _ m t _ => h.takeAppend hx r m t))
  | calibrationWriteCompletion =>
    exact h.completes (fun x f hx hf => takeCalibrationUnit_keeps (w := ⟨s, []⟩) hP.toStable hf
      (fun _ _ _ _ _ hunit => h.takeCalibration hx hunit))
  | testRecordCompletion =>
    exact h.completes (fun x f hx hf => takeTestUnit_keeps (w := ⟨s, []⟩) hP.toStable hf (fun l _ run _ => h.takeTestRecord l run))
  | restartUpdateCompletion =>
    refine h.completes (fun x f hx hf => ?_)
    obtain ⟨n, m, hunit, rfl⟩ := takeUpdateUnit_eq hf
    exact h.takeUpdate hx hunit
  | faultLogWriteCompletion =>
    refine h.completes (fun x f hx hf => ?_)
    obtain ⟨-, rfl⟩ := takeFaultLogUnit_eq hf
    exact h.takeFaultLog hx
  | storedTicketDamage place record =>
    change ∃ u, execStoredTicketDamage place record s = _ ∧ _
    unfold execStoredTicketDamage
    refine hP.eventSt (fun s h => ?_) h
    split
    · exact h.withStore h.audit h.stored h.transferred.2.1 h.ring
    · exact h
  | storedCalibrationDamage d =>
    change ∃ u, execStoredCalibrationDamage d s = _ ∧ _
    unfold execStoredCalibrationDamage
    refine hP.eventSt (fun s h => ?_) h
    cases d <;> exact h.withStore h.audit h.stored h.transferred.2.1 h.ring
  | _ => exact absurd rfl hc

/-- Settles O59: the step takes the front command, and every command keeps the invariant. -/
theorem bufferInvariantIsKept : Obligations.BufferInvariantIsKept := by
  intro s t h hstep
  unfold step at hstep
  split at hstep
  · cases hstep
    exact h
  next c rest _ =>
    have hrest : BuffersInv { s with pending := rest } :=
      ⟨h.front, h.engine, h.faults, h.audit, h.plans, h.counters, h.stored, h.recovered, h.units, h.transferred, h.ring⟩
    obtain ⟨u, hu, hinv⟩ := hrest.exec c
    cases hu.symm.trans hstep
    exact survives_buffersInv.drive hinv

end Sys2Proof.Safety
end

section
/-! PROOF. The start-up sequence: what its fault-log entries and its units leave in the log and in the engine. -/

namespace Sys2Proof.Safety

open Sys2Proof.Machine

/-! ## The fault log of a start-up (R200, R202) -/

/-- The log after the entries of a start-up: the first in the ring with a write outstanding, four more in the overflow, the rest
lost. -/
structure LogShape (base : List RingEntry) (es : List FaultEntry) (f : FaultLog) : Prop where
  none : es = [] → f = ⟨base, [], 0, none, false⟩
  some : ∀ e more, es = e :: more →
    f.ring.map (fun x => (x.entry, x.stored)) = (joinRing base e).map (fun x => (x.entry, x.stored)) ∧ f.overflow = more.take 4 ∧
      f.lost = min 255 (more.length - 4) ∧ f.outstanding ≠ Option.none ∧ f.wanted = decide (more ≠ [])

/-- The log and the engine during a start-up that has made entries and still hands over a number of units: the log's own unit has
its place too, until it is in the engine. -/
structure StartLog (base : List RingEntry) (es : List FaultEntry) (n : Nat) (s : State) : Prop where
  shape : LogShape base es s.faultLog
  unwritten : es = [] → Room s.engine (n + 1) ∧ WriteUnit.faultLog ∉ unitsOf s.engine
  written : es ≠ [] → Room s.engine n

theorem takesFaultLog_of_room {e : Engine} {n : Nat} (h : Room e (n + 1)) (hlog : WriteUnit.faultLog ∉ unitsOf e) :
    e.takesFaultLog = true := by
  rw [takesFaultLog_iff]
  cases h with
  | idle hst => exact .inl hst
  | writing x hst hflight hroom => exact .inr ⟨hst, by omega, fun hmem => hlog (List.mem_append_right _ hmem)⟩

/-- The units that start-up owes: all in the engine but the log's own write. -/
theorem recoveryUnits_eq (s : State) : recoveryUnits s = (unitsOf s.engine).filter (· ≠ .faultLog) := rfl

theorem joinRing_carried (base : List RingEntry) :
    (base.map (fun x => ({ x with carried := true } : RingEntry))).map (fun x => (x.entry, x.stored))
      = base.map (fun x => (x.entry, x.stored)) := by
  rw [List.map_map]
  rfl

/-- The first entry of a start-up joins the ring, and the log's write goes to the engine. -/
theorem StartLog.first {base : List RingEntry} {n : Nat} {s : State} (h : StartLog base [] n s) (e : FaultEntry) :
    StartLog base [e] n (s.logFault e) ∧ recoveryUnits (s.logFault e) = recoveryUnits s := by
  have hlog : s.faultLog = ⟨base, [], 0, none, false⟩ := h.shape.none rfl
  obtain ⟨hroom, hqueue⟩ := h.unwritten rfl
  obtain ⟨hwritten, hunits⟩ := hand_units (s := { s with faultLog := { s.faultLog with
    ring := joinRing s.faultLog.ring e, outstanding := some .queued } }) hroom .faultLog
  have hlogged : s.logFault e = State.hand { s with faultLog := { s.faultLog with
      ring := joinRing s.faultLog.ring e, outstanding := some .queued } } .faultLog :=
    logFault_taken e (by rw [hlog]) (by rw [hlog]) (takesFaultLog_of_room hroom hqueue)
  rw [hlogged]
  refine ⟨⟨⟨fun hnil => absurd hnil (List.cons_ne_nil _ _), fun f more hcons => ?_⟩, fun hnil => absurd hnil (List.cons_ne_nil _ _), fun _ => hwritten⟩, ?_⟩
  · cases hcons
    have hring : s.faultLog.ring = base := by rw [hlog]
    cases hroom with
    | idle hst =>
      rw [hand_idle (by exact hst), goInFlight_eq]
      refine ⟨?_, ?_, ?_, Option.some_ne_none _, ?_⟩
      · dsimp only
        rw [if_pos rfl, hring]
        exact joinRing_carried _
      all_goals
        dsimp only
        rw [if_pos rfl, hlog]
        rfl
    | writing x hst hflight hplaces =>
      rw [hand_writing (by exact hst) (by exact (by omega : s.engine.queue.length < 4))]
      dsimp only
      rw [hlog]
      exact ⟨rfl, rfl, rfl, Option.some_ne_none _, rfl⟩
  · rw [recoveryUnits_eq, hunits, List.filter_append]
    exact List.append_nil _

/-- A further entry waits in the overflow or is lost. -/
theorem StartLog.more {base : List RingEntry} {n : Nat} {s : State} {d : FaultEntry} {ds : List FaultEntry}
    (h : StartLog base (d :: ds) n s) (e : FaultEntry) :
    StartLog base (d :: ds ++ [e]) n (s.logFault e) ∧ recoveryUnits (s.logFault e) = recoveryUnits s := by
  obtain ⟨hring, hover, hlost, hout, hwanted⟩ := h.shape.some d ds rfl
  rw [logFault_kept e (.inr (.inl hout)), hover, List.length_take]
  split
  next hroom =>
    refine ⟨⟨⟨fun hnil => absurd hnil (List.cons_ne_nil _ _), fun f more hcons => ?_⟩, fun hnil => absurd hnil (List.cons_ne_nil _ _),
      fun _ => h.written (List.cons_ne_nil _ _)⟩, rfl⟩
    rw [List.cons_append] at hcons
    obtain ⟨rfl, rfl⟩ := List.cons.inj hcons
    refine ⟨hring, ?_, ?_, hout, ?_⟩
    · dsimp only
      rw [List.take_of_length_le (by omega), List.take_of_length_le (by rw [List.length_append, List.length_singleton]; omega)]
    · dsimp only
      rw [hlost, List.length_append, List.length_singleton]
      omega
    · exact (decide_eq_true (List.append_ne_nil_of_right_ne_nil ds (List.cons_ne_nil e []))).symm
  next hfull =>
    refine ⟨⟨⟨fun hnil => absurd hnil (List.cons_ne_nil _ _), fun f more hcons => ?_⟩, fun hnil => absurd hnil (List.cons_ne_nil _ _),
      fun _ => h.written (List.cons_ne_nil _ _)⟩, rfl⟩
    rw [List.cons_append] at hcons
    obtain ⟨rfl, rfl⟩ := List.cons.inj hcons
    refine ⟨hring, ?_, ?_, hout, ?_⟩
    · dsimp only
      rw [hover, List.take_append_of_le_length (by omega)]
    · dsimp only
      rw [hlost, List.length_append, List.length_singleton]
      omega
    · dsimp only
      rw [hwanted, decide_eq_true (List.append_ne_nil_of_right_ne_nil ds (List.cons_ne_nil e [])), decide_eq_true]
      rintro rfl
      exact hfull (by decide)

theorem StartLog.logFault {base : List RingEntry} {es : List FaultEntry} {n : Nat} {s : State} (h : StartLog base es n s)
    (e : FaultEntry) : StartLog base (es ++ [e]) n (s.logFault e) ∧ recoveryUnits (s.logFault e) = recoveryUnits s := by
  cases es with
  | nil => exact h.first e
  | cons d ds => exact h.more e

theorem StartLog.logged {base : List RingEntry} {n : Nat} (more : List FaultEntry) {es : List FaultEntry} {s : State}
    (h : StartLog base es n s) : StartLog base (es ++ more) n (more.foldl State.logFault s) ∧
      recoveryUnits (more.foldl State.logFault s) = recoveryUnits s := by
  induction more generalizing es s with
  | nil => exact ⟨by rwa [List.append_nil], rfl⟩
  | cons e more ih =>
    obtain ⟨hfirst, hunits⟩ := h.logFault e
    obtain ⟨hrest, hunits'⟩ := ih hfirst
    rw [List.append_assoc] at hrest
    exact ⟨hrest, hunits'.trans hunits⟩

/-- What the log holds of a start-up does not depend on the rest of the part. -/
theorem StartLog.congr {base : List RingEntry} {es : List FaultEntry} {n : Nat} {s t : State} (h : StartLog base es n s)
    (hlog : t.faultLog = s.faultLog) (hengine : t.engine = s.engine) : StartLog base es n t :=
  ⟨hlog ▸ h.shape, hengine ▸ h.unwritten, hengine ▸ h.written⟩

end Sys2Proof.Safety
end

section
/-! PROOF. The start-up sequence step by step (R175). -/

namespace Sys2Proof.Safety

open Sys2Proof.Machine

/-! ## A part of start-up that makes entries -/

/-- A part of start-up that makes entries: it changes the log, the engine and the damaged marks alone. -/
structure Logs (w v : Work) (es : List FaultEntry) : Prop where
  notes : v.notes = w.notes ++ es.flatMap faultNotices
  log : ∀ {base ds n}, StartLog base ds n w.st → StartLog base (ds ++ es) n v.st ∧ recoveryUnits v.st = recoveryUnits w.st
  rest : ∃ f x m, v.st = { w.st with faultLog := f, engine := x, journal := { w.st.journal with marks := m } }

theorem Logs.refl (w : Work) : Logs w w [] :=
  ⟨(List.append_nil _).symm, fun h => ⟨by rwa [List.append_nil], rfl⟩, _, _, _, rfl⟩

theorem Logs.trans {u v w : Work} {ds es : List FaultEntry} (h : Logs u v ds) (k : Logs v w es) : Logs u w (ds ++ es) where
  notes := by rw [k.notes, h.notes, List.flatMap_append, List.append_assoc]
  log hlog := by
    obtain ⟨hfirst, hunits⟩ := h.log hlog
    obtain ⟨hsecond, hunits'⟩ := k.log hfirst
    rw [List.append_assoc] at hsecond
    exact ⟨hsecond, hunits'.trans hunits⟩
  rest := by
    obtain ⟨f, x, m, hv⟩ := h.rest
    obtain ⟨f', x', m', hw⟩ := k.rest
    rw [hv] at hw
    exact ⟨f', x', m', hw⟩

/-- An entry made outside RUNNING has no time (R183). -/
theorem logs_fault {w : Work} (hstamp : w.st.stamp = none) (c : FaultCode) (l : Option LineId) (d : BitVec 32) :
    Logs w (w.fault c l d) [⟨none, c, l, d⟩] := by
  obtain ⟨s, ns⟩ := w
  have hstamp' : s.stamp = none := hstamp
  rw [fault_eq, hstamp']
  refine ⟨by rw [List.flatMap_singleton], fun h => h.logFault _, _, _, s.journal.marks, logFault_form s _⟩

theorem Logs.stamp {w v : Work} {es : List FaultEntry} (h : Logs w v es) : v.st.stamp = w.st.stamp := by
  obtain ⟨f, x, m, hv⟩ := h.rest
  rw [hv]
  rfl

/-! ## The check of the journal (R145) -/

/-- The entry of a position whose record fails its code. -/
def damagedEntry (st : Store) (h : JournalHeader) (i : Nat) : List FaultEntry :=
  if ticketGood ((st.places[h.place i]).getD []) then []
  else [⟨none, .journalDamaged, none, BitVec.ofNat 32 (h.oldestNumber + i)⟩]

/-- The marks after the check of a position. -/
def checkedMark (st : Store) (h : JournalHeader) (marks : BitVec 256) (i : Nat) : BitVec 256 :=
  if ticketGood ((st.places[h.place i]).getD []) then marks else setMark marks (h.place i)

theorem checkEntry_logs (w : Work) (i : Nat) (hstamp : w.st.stamp = none) :
    Logs w (w.checkEntry i) (damagedEntry w.st.store w.st.journal.header i) ∧
      (w.checkEntry i).st.journal.marks = checkedMark w.st.store w.st.journal.header w.st.journal.marks i := by
  unfold Work.checkEntry damagedEntry checkedMark State.entryRecord
  dsimp only
  by_cases hgood : ticketGood ((w.st.store.places[w.st.journal.header.place i]).getD []) = true
  · rw [if_pos hgood, if_pos hgood, if_pos hgood]
    exact ⟨.refl w, rfl⟩
  · rw [if_neg hgood, if_neg hgood, if_neg hgood]
    let v := w.mapSt (fun s => { s with journal := { s.journal with marks := setMark s.journal.marks (w.st.journal.header.place i) } })
    have hmark : Logs w v [] :=
      ⟨(List.append_nil _).symm, fun h => ⟨by rw [List.append_nil]; exact h.congr rfl rfl, rfl⟩, _, _, _, rfl⟩
    exact ⟨hmark.trans (logs_fault (w := v) hstamp _ _ _), congrArg Journal.marks (State.logFault_journal _ _)⟩

theorem checkEntries_logs (is : List Nat) (w : Work) (hstamp : w.st.stamp = none) :
    Logs w (is.foldl Work.checkEntry w) (is.flatMap (damagedEntry w.st.store w.st.journal.header)) ∧
      (is.foldl Work.checkEntry w).st.journal.marks =
        is.foldl (checkedMark w.st.store w.st.journal.header) w.st.journal.marks := by
  induction is generalizing w with
  | nil => exact ⟨.refl w, rfl⟩
  | cons i is ih =>
    obtain ⟨hfirst, hmarks⟩ := checkEntry_logs w i hstamp
    obtain ⟨hrest, hmarks'⟩ := ih (w.checkEntry i) (hfirst.stamp.trans hstamp)
    have hsame : (w.checkEntry i).st.store = w.st.store ∧ (w.checkEntry i).st.journal.header = w.st.journal.header := by
      obtain ⟨f, x, m, hv⟩ := hfirst.rest
      rw [hv]
      exact ⟨rfl, rfl⟩
    rw [hsame.1, hsame.2] at hrest hmarks'
    rw [hmarks] at hmarks'
    exact ⟨hfirst.trans hrest, hmarks'⟩

/-! ## The entries of interrupted lines (R181) -/

/-- The entry of a line whose held snapshot holds a delivery. -/
def interruptedOf (cause : RestartCause) (l : LineId) (x : Snapshot) : List FaultEntry :=
  if x.state = .idle ∨ x.state = .unverified then []
  else [⟨none, match cause with | .power => .powerInterrupted | .reset => .resetInterrupted, some l,
    if x.delivery.mode = some .sale ∧ 0 < x.delivery.counts.g then BitVec.ofNat 32 (x.delivery.ticketNumber.getD 0) else 0⟩]

theorem interruptedEntries_eq (cause : RestartCause) (held : PerLine Snapshot) : interruptedEntries cause held =
    interruptedOf cause .a held.a ++ interruptedOf cause .b held.b := by
  simp only [interruptedEntries, List.flatMap_cons, List.flatMap_nil, List.append_nil]
  rfl

theorem interruptedEntry_logs (l : LineId) (w : Work) (hstamp : w.st.stamp = none) :
    Logs w (w.interruptedEntry l) (interruptedOf w.st.restart.cause l (w.st.heldOf l)) := by
  have hholds : (w.st.heldOf l).state.holds = true ↔ ¬ ((w.st.heldOf l).state = .idle ∨ (w.st.heldOf l).state = .unverified) := by
    cases (w.st.heldOf l).state <;> simp [LineState.holds]
  unfold Work.interruptedEntry interruptedOf
  dsimp only
  by_cases h : (w.st.heldOf l).state = .idle ∨ (w.st.heldOf l).state = .unverified
  · rw [if_pos h, if_neg (mt hholds.mp (not_not_intro h))]
    exact .refl w
  · rw [if_neg h, if_pos (hholds.mpr h)]
    have hdetail : BitVec.ofNat 32 (w.st.heldOf l).interruptedDetail =
        if (w.st.heldOf l).delivery.mode = some .sale ∧ 0 < (w.st.heldOf l).delivery.counts.g
          then BitVec.ofNat 32 ((w.st.heldOf l).delivery.ticketNumber.getD 0) else 0 := by
      unfold Snapshot.interruptedDetail
      split <;> rfl
    rw [← hdetail]
    have hentry := logs_fault hstamp (interruptedCode w.st.restart.cause) (some l) (BitVec.ofNat 32 (w.st.heldOf l).interruptedDetail)
    cases hcause : w.st.restart.cause <;> rw [hcause] at hentry <;> exact hentry

end Sys2Proof.Safety
end

section
/-! PROOF. The start-up sequence as a whole (R175 steps 1 to 5). -/

namespace Sys2Proof.Safety

open Sys2Proof.Machine

/-! ## The load (steps 1 and 2) -/

/-- The ring as start-up loads it from the store (R200). -/
def loadedRing (st : Store) : List RingEntry := st.ring.map (fun e => ⟨e, true, false⟩)

theorem beginStartUp_stamp (s : State) : s.beginStartUp.stamp = none := by
  rw [State.stamp, State.beginStartUp]
  exact if_neg Bool.false_ne_true

theorem loadedSave_eq (s : State) : loadedSave ⟨s, []⟩ =
    ⟨State.loadSave { (loadEntries none s.store).foldl State.logFault s.beginStartUp with cal := calLoaded s.beginStartUp },
      (loadEntries none s.store).flatMap faultNotices⟩ := by
  have hbegin : Work.mapSt State.beginStartUp ⟨s, []⟩ = ⟨s.beginStartUp, []⟩ := rfl
  have hstore : s.beginStartUp.store = s.store := rfl
  rw [loadedSave, hbegin, loadAll_eq s.beginStartUp [], beginStartUp_stamp, hstore, List.nil_append, Work.mapSt]

/-- What start-up has loaded from the store. -/
structure LoadsStore (s t : State) : Prop where
  form : t = { s with
    lines := ⟨s.lines.a.restoreTotals s.store.snapshots.a, s.lines.b.restoreTotals s.store.snapshots.b⟩
    engine := t.engine
    faultLog := t.faultLog
    journal := { t.journal with header := s.store.header, nextNumber := s.store.nextNumber, reservations := 0, pendingRecovery := 0 }
    cal := calLoaded s.beginStartUp
    restart := { s.restart with
      phase := .starting, tickets := 0, testRuns := 0, held := s.store.snapshots, cause := s.store.saveCause } }

theorem loadedSave_loads (s : State) : LoadsStore s (loadedSave ⟨s, []⟩).st ∧
    (loadedSave ⟨s, []⟩).st.journal.marks = s.store.marks ∧
    (loadedSave ⟨s, []⟩).notes = (loadEntries none s.store).flatMap faultNotices ∧
    StartLog (loadedRing s.store) (loadEntries none s.store) 4 (loadedSave ⟨s, []⟩).st ∧
    recoveryUnits (loadedSave ⟨s, []⟩).st = [] := by
  have hfirst : StartLog (loadedRing s.store) [] 4 s.beginStartUp :=
    ⟨⟨fun _ => rfl, fun _ _ h => nomatch h⟩, fun _ => ⟨.idle rfl rfl rfl (by decide), List.not_mem_nil⟩, fun h => absurd rfl h⟩
  obtain ⟨hlog, hunits⟩ := hfirst.logged (loadEntries none s.store)
  rw [loadedSave_eq]
  generalize hcal : calLoaded s.beginStartUp = c
  generalize loadEntries none s.store = es at hlog hunits ⊢
  refine ⟨⟨?_⟩, ?_, rfl, ?_, ?_⟩
  · rw [logged_form, hcal]
    rfl
  · rw [logged_form]
    rfl
  · exact hlog.congr rfl rfl
  · exact hunits

/-! ## The check of the journal (step 3) -/

theorem LoadsStore.logs {s : State} {v w : Work} {es : List FaultEntry} (h : LoadsStore s v.st) (k : Logs v w es) :
    LoadsStore s w.st := by
  obtain ⟨f, x, m, hw⟩ := k.rest
  have hform := h.form
  constructor
  rw [hw, hform]

/-- The marks after the check of every entry of the journal. -/
def checkedMarks (st : Store) (marks : BitVec 256) : BitVec 256 :=
  (List.range st.header.count).foldl (checkedMark st st.header) marks

theorem LoadsStore.stamp {s t : State} (h : LoadsStore s t) : t.stamp = none := by
  rw [h.form]
  exact if_neg Bool.false_ne_true

theorem checkJournal_loads {s : State} {v : Work} (h : LoadsStore s v.st) (hmarks : v.st.journal.marks = s.store.marks) :
    Logs v v.checkJournal (damagedEntries s.store) ∧ LoadsStore s v.checkJournal.st ∧
      v.checkJournal.st.journal.marks = checkedMarks s.store s.store.marks := by
  have hstore : v.st.store = s.store := by rw [h.form]
  have hheader : v.st.journal.header = s.store.header := by rw [h.form]
  obtain ⟨hlogs, hchecked⟩ := checkEntries_logs (List.range v.st.journal.header.count) v h.stamp
  rw [hstore, hheader] at hlogs
  rw [hstore, hheader, hmarks] at hchecked
  have hfold : v.checkJournal = (List.range s.store.header.count).foldl Work.checkEntry v := by
    rw [Work.checkJournal, hheader]
  rw [hfold]
  exact ⟨hlogs, h.logs hlogs, hchecked⟩

theorem foundMarks_loads {s t : State} (h : LoadsStore s t) : t.foundMarks = checkedMarks s.store 0 := by
  have hstore : t.store = s.store := by rw [h.form]
  have hheader : t.journal.header = s.store.header := by rw [h.form]
  have hfound : t.foundMarks = (List.range t.journal.header.count).foldl (checkedMark t.store t.journal.header) 0 := rfl
  rw [hfound, hstore, hheader, checkedMarks]

/-! ## Recovery and the last step (steps 4 and 5) -/

theorem RecoveryKeeps.form {s t : State} (h : RecoveryKeeps s t) :
    t = { s with engine := t.engine, journal := t.journal, restart := t.restart } := by
  obtain ⟨hpending, hlines, ⟨hpump, hfault⟩, ⟨hestop, hhold⟩, hinputs, horders, hplans, hcal, hlog, hlinks, hstore, -, -⟩ := h
  rw [← hpending, ← hlines, ← hpump, ← hfault, ← hestop, ← hhold, ← hinputs, ← horders, ← hplans, ← hcal, ← hlog, ← hlinks,
    ← hstore]

theorem isOpenWith_iff (x : Snapshot) (m : Mode) : x.isOpenWith m = true ↔ openWith x m := by
  simp only [Snapshot.isOpenWith, Bool.and_eq_true, beq_iff_eq, decide_eq_true_eq, and_assoc]

theorem weight_mode (d : Delivery) (used : Int) : (d.weight used).mode = d.mode := by
  unfold Delivery.weight Delivery.recompute
  split <;> rfl

theorem weighed_mode (x : Snapshot) : x.weighed.mode = x.delivery.mode := by
  change x.delivery.recoverySample.mode = _
  unfold Delivery.recoverySample
  split <;> exact weight_mode _ _

theorem soldDelivery_mode (x : Snapshot) (l : LineId) (c : RestartCause) (n : Nat) :
    (x.soldDelivery l c n).mode = x.delivery.mode := weighed_mode x

/-- A SALE that has been recovered is in RECORDING, and nothing more is owed to it. -/
theorem testDuty_sale {l : LineId} {x : Snapshot} (hst : x.state = .recording) (hmode : x.delivery.mode = some .sale) :
    testDuty l x = ⟨[], x⟩ := by
  unfold testDuty
  rw [if_neg (by rw [isOpenWith_recording hst]; exact Bool.false_ne_true), if_neg (by rw [hmode]; simp)]

section
variable {s : State} {l : LineId}

/-- A SALE in RECORDING whose number the journal does not hold is owed its append (R179). -/
theorem owed_unheld {n : Nat} (h : s.unheldNumber l = some n) :
    recordedOf s l = ⟨[.journalAppend l true n s.journal.nextNumber ((s.heldOf l).delivery.interruptSale.ticket.getD [])],
      { s.heldOf l with delivery := (s.heldOf l).delivery.interruptSale }⟩ ∧
    saleOf s l = ⟨[], (recordedOf s l).left⟩ ∧ testOf s l = ⟨[], (recordedOf s l).left⟩ ∧
    nextAfter (recordedOf s l).left s.journal.nextNumber = s.journal.nextNumber := by
  obtain ⟨hst, hmode⟩ := unheldNumber_recording h
  have hrecorded : recordedOf s l = ⟨[.journalAppend l true n s.journal.nextNumber
      ((s.heldOf l).delivery.interruptSale.ticket.getD [])],
      { s.heldOf l with delivery := (s.heldOf l).delivery.interruptSale }⟩ := by
    rw [recordedOf, h]
    rfl
  have hopen : ¬ (recordedOf s l).left.isOpenWith .sale = true := by
    rw [hrecorded]
    exact fun hopen => Bool.false_ne_true ((isOpenWith_recording
      (x := { s.heldOf l with delivery := (s.heldOf l).delivery.interruptSale }) hst).symm.trans hopen)
  have hsale : saleOf s l = ⟨[], (recordedOf s l).left⟩ := if_neg hopen
  refine ⟨hrecorded, hsale, ?_, if_neg hopen⟩
  rw [testOf, hsale]
  refine testDuty_sale ?_ ?_ <;> rw [hrecorded]
  · exact hst
  · exact hmode

theorem recordedOf_none (h : s.unheldNumber l = none) : recordedOf s l = ⟨[], s.heldOf l⟩ := by
  rw [recordedOf, h]
  rfl

/-- An open snapshot is in no RECORDING. -/
theorem unheldNumber_open {m : Mode} (h : openWith (s.heldOf l) m) : s.unheldNumber l = none := by
  cases hn : s.unheldNumber l with
  | none => rfl
  | some n =>
    have hst := (unheldNumber_recording hn).1
    rw [openWith, hst] at h
    exact Bool.noConfusion h.1

/-- An open SALE with G > 0 is owed its append (R178). -/
theorem owed_sale (h : openWith (s.heldOf l) .sale) :
    recordedOf s l = ⟨[], s.heldOf l⟩ ∧
    saleOf s l = ⟨[.journalAppend l true (saleNumber s l) (saleNumber s l + 1)
        (((s.heldOf l).soldDelivery l s.restart.cause (saleNumber s l)).ticket.getD [])],
      { s.heldOf l with
        state := .recording, delivery := (s.heldOf l).soldDelivery l s.restart.cause (saleNumber s l), written := false }⟩ ∧
    testOf s l = ⟨[], (saleOf s l).left⟩ := by
  have hrecorded := recordedOf_none (unheldNumber_open h)
  have hsale : saleOf s l = ⟨[.journalAppend l true (saleNumber s l) (saleNumber s l + 1)
        (((s.heldOf l).soldDelivery l s.restart.cause (saleNumber s l)).ticket.getD [])],
      { s.heldOf l with
        state := .recording, delivery := (s.heldOf l).soldDelivery l s.restart.cause (saleNumber s l), written := false }⟩ := by
    rw [saleOf, hrecorded]
    exact if_pos ((isOpenWith_iff _ _).mpr h)
  refine ⟨hrecorded, hsale, ?_⟩
  rw [testOf, hsale]
  exact testDuty_sale rfl ((soldDelivery_mode _ _ _ _).trans h.2.1)

/-- Of a snapshot that is no SALE to recover only a TEST is owed anything. -/
theorem owed_test (hnone : s.unheldNumber l = none) (hsale : ¬ openWith (s.heldOf l) .sale) :
    recordedOf s l = ⟨[], s.heldOf l⟩ ∧ saleOf s l = ⟨[], s.heldOf l⟩ ∧ testOf s l = testDuty l (s.heldOf l) := by
  have hrecorded := recordedOf_none hnone
  have hnothing : saleOf s l = ⟨[], s.heldOf l⟩ := by
    rw [saleOf, hrecorded]
    exact if_neg (mt (isOpenWith_iff _ _).mp hsale)
  exact ⟨hrecorded, hnothing, by rw [testOf, hnothing]⟩

end

/-- A line's part of recovery is one unit at the most (R177). -/
theorem duty_le_one (s : State) (l : LineId) :
    (recordedOf s l).units.length + (saleOf s l).units.length + (testOf s l).units.length ≤ 1 := by
  cases h : s.unheldNumber l with
  | some n =>
    obtain ⟨hrecorded, hsale, htest, -⟩ := owed_unheld h
    rw [hsale, htest, hrecorded]
    exact Nat.le_refl 1
  | none =>
    by_cases hopen : openWith (s.heldOf l) .sale
    · obtain ⟨hrecorded, hsale, htest⟩ := owed_sale hopen
      rw [htest, hrecorded, hsale]
      exact Nat.le_refl 1
    · obtain ⟨hrecorded, hsale, htest⟩ := owed_test h hopen
      rw [hrecorded, hsale, htest]
      rcases testDuty_units l (s.heldOf l) with hunits | ⟨r, hunits⟩ <;> rw [hunits]
      · exact Nat.zero_le 1
      · exact Nat.le_refl 1

end Sys2Proof.Safety
end

section
/-! PROOF. The start-up sequence as a whole: what its log, its engine and its state are once every step is done (R175). -/

namespace Sys2Proof.Safety

open Sys2Proof.Machine

/-! ## Units handed over while the log has entries -/

/-- Units that join the engine leave the log alone and stand behind the units it held. -/
theorem StartLog.joined {base : List RingEntry} {es : List FaultEntry} {n : Nat} {s t : State} {us : List WriteUnit}
    (h : StartLog base es (us.length + n) s) (hlog : t.faultLog = s.faultLog) (hus : WriteUnit.faultLog ∉ us)
    (hunits : ∀ n, Room s.engine (us.length + n) → Room t.engine n ∧ unitsOf t.engine = unitsOf s.engine ++ us) :
    StartLog base es n t ∧ recoveryUnits t = recoveryUnits s ++ us := by
  have hstand : unitsOf t.engine = unitsOf s.engine ++ us := by
    by_cases hes : es = []
    · exact (hunits (n + 1) (h.unwritten hes).1).2
    · exact (hunits n (h.written hes)).2
  refine ⟨⟨hlog ▸ h.shape, fun hes => ?_, fun hes => (hunits n (h.written hes)).1⟩, ?_⟩
  · obtain ⟨hroom, hnone⟩ := h.unwritten hes
    refine ⟨(hunits (n + 1) hroom).1, ?_⟩
    rw [hstand, List.mem_append]
    exact fun hmem => hmem.elim hnone hus
  · have hall : us.filter (· ≠ .faultLog) = us := List.filter_eq_self.mpr fun u hu => decide_eq_true fun hu' => hus (hu' ▸ hu)
    rw [recoveryUnits_eq, hstand, List.filter_append, hall, recoveryUnits_eq]

theorem StartLog.hand {base : List RingEntry} {es : List FaultEntry} {n : Nat} {s : State} (h : StartLog base es (n + 1) s)
    {u : WriteUnit} (hcal : ∀ r c d k e, u ≠ .calibration r c d k e) (hlog : u ≠ .faultLog) :
    StartLog base es n (s.hand u) ∧ recoveryUnits (s.hand u) = recoveryUnits s ++ [u] := by
  have hsame : (s.hand u).faultLog = s.faultLog := by rw [hand_engine_only s hcal hlog]
  refine StartLog.joined (us := [u]) (by rwa [Nat.add_comm] at h) hsame (by simpa using hlog.symm) fun k hroom => ?_
  rw [List.length_singleton, Nat.add_comm] at hroom
  exact hand_units hroom u

theorem update_kind (k : Nat) (m : BitVec 256) :
    (∀ r c d n e, WriteUnit.restartUpdate k m ≠ .calibration r c d n e) ∧ WriteUnit.restartUpdate k m ≠ .faultLog :=
  ⟨fun _ _ _ _ _ => nofun, nofun⟩

/-! ## What recovery owes both lines -/

/-- The units of the snapshots that are no SALE in RECORDING: the open SALES, then the TESTS, line A before line B. -/
def laterUnits (r : State) : List WriteUnit :=
  ((saleOf r .a).units ++ (saleOf r .b).units) ++ ((testOf r .a).units ++ (testOf r .b).units)

theorem RecordedOrder.mem {r : State} {us : List WriteUnit} (h : RecordedOrder r us) (u : WriteUnit) :
    u ∈ us ↔ u ∈ (recordedOf r .a).units ∨ u ∈ (recordedOf r .b).units := by
  rcases h with ⟨rfl, -⟩ | ⟨rfl, -⟩ <;> rw [List.mem_append]
  exact or_comm

theorem RecordedOrder.length {r : State} {us : List WriteUnit} (h : RecordedOrder r us) :
    us.length = (recordedOf r .a).units.length + (recordedOf r .b).units.length := by
  rcases h with ⟨rfl, -⟩ | ⟨rfl, -⟩ <;> rw [List.length_append]
  exact Nat.add_comm _ _

/-- Recovery hands over two units at the most (R177). -/
theorem recovery_le_two {r : State} {us : List WriteUnit} (h : RecordedOrder r us) : (us ++ laterUnits r).length ≤ 2 := by
  have hA := duty_le_one r .a
  have hB := duty_le_one r .b
  simp only [laterUnits, List.length_append, h.length]
  omega

/-- The units that a line's snapshot is owed. -/
def owedUnits (r : State) (l : LineId) : List WriteUnit :=
  (recordedOf r l).units ++ (saleOf r l).units ++ (testOf r l).units

theorem mem_recovery {r : State} {us : List WriteUnit} (h : RecordedOrder r us) (u : WriteUnit) :
    u ∈ us ++ laterUnits r ↔ u ∈ owedUnits r .a ∨ u ∈ owedUnits r .b := by
  simp only [laterUnits, owedUnits, List.mem_append, h.mem]
  tauto

/-- A SALE in RECORDING is owed an append of its own number. -/
theorem mem_recordedOf {r : State} {l : LineId} {u : WriteUnit} (h : u ∈ (recordedOf r l).units) :
    ∃ n next ticket, r.unheldNumber l = some n ∧ u = .journalAppend l true n next ticket := by
  unfold recordedOf at h
  cases hn : r.unheldNumber l <;> rw [hn] at h
  · cases h
  · exact ⟨_, _, _, rfl, List.mem_singleton.mp h⟩

/-- An open SALE is owed an append of the number it takes. -/
theorem mem_saleOf {r : State} {l : LineId} {u : WriteUnit} (h : u ∈ (saleOf r l).units) :
    ∃ next ticket, u = .journalAppend l true (saleNumber r l) next ticket := by
  unfold saleOf saleDuty at h
  split at h
  · exact ⟨_, _, List.mem_singleton.mp h⟩
  · cases h

/-- A TEST is owed a test record. -/
theorem mem_testOf {r : State} {l : LineId} {u : WriteUnit} (h : u ∈ (testOf r l).units) : ∃ run, u = .testRecord l true run := by
  rw [testOf] at h
  rcases testDuty_units l (saleOf r l).left with hunits | ⟨run, hunits⟩ <;> rw [hunits] at h
  · cases h
  · exact ⟨run, List.mem_singleton.mp h⟩

/-- What a line's snapshot is owed is an append or a test record of that line. -/
theorem owedUnits_form (r : State) (l : LineId) (u : WriteUnit) (h : u ∈ owedUnits r l) :
    (∃ n next ticket, u = .journalAppend l true n next ticket) ∨ ∃ run, u = .testRecord l true run := by
  simp only [owedUnits, List.mem_append] at h
  rcases h with (h | h) | h
  · obtain ⟨n, next, ticket, -, hu⟩ := mem_recordedOf h
    exact .inl ⟨n, next, ticket, hu⟩
  · obtain ⟨next, ticket, hu⟩ := mem_saleOf h
    exact .inl ⟨_, next, ticket, hu⟩
  · exact .inr (mem_testOf h)

theorem faultLog_notMem {r : State} {us : List WriteUnit} (h : RecordedOrder r us) : WriteUnit.faultLog ∉ us ++ laterUnits r := by
  intro hmem
  have hform : ∀ l, WriteUnit.faultLog ∉ owedUnits r l := fun l hu => by
    rcases owedUnits_form r l _ hu with ⟨_, _, _, h⟩ | ⟨_, h⟩ <;> cases h
  exact ((mem_recovery h _).mp hmem).elim (hform _) (hform _)

/-! ## The last steps -/

theorem interruptedEntry_journal (l : LineId) (w : Work) : (w.interruptedEntry l).st.journal = w.st.journal := by
  unfold Work.interruptedEntry
  dsimp only
  split
  · exact State.logFault_journal _ _
  · rfl

/-- The entries of a start-up that leaves its snapshots held. -/
def startUpEntries (st : Store) (held : PerLine Snapshot) : List FaultEntry :=
  loadEntries none st ++ damagedEntries st ++ interruptedEntries st.saveCause held

/-- The part once recovery has handed over units and left snapshots and a next number, the interruptions counted so far. -/
def recoveredForm (s : State) (us : List WriteUnit) (held : PerLine Snapshot) (next count : Nat) (e : Engine) (f : FaultLog) :
    State := { s with
  lines := ⟨s.lines.a.restoreTotals s.store.snapshots.a, s.lines.b.restoreTotals s.store.snapshots.b⟩
  engine := e
  faultLog := f
  cal := calLoaded s.beginStartUp
  journal := ⟨s.store.header, checkedMarks s.store s.store.marks, next, 0, us.countP isAppend⟩
  restart := { s.restart with
    phase := .starting
    held := held
    cause := s.store.saveCause
    interruptions := count
    tickets := us.countP isAppend
    testRuns := us.countP isTestRecord } }

section
variable (s : State) (us : List WriteUnit) (held : PerLine Snapshot) (next count : Nat) (e : Engine) (f : FaultLog)

theorem recoveredForm_engine : (recoveredForm s us held next count e f).engine = e := by rw [recoveredForm]

theorem recoveredForm_log : (recoveredForm s us held next count e f).faultLog = f := by rw [recoveredForm]

theorem recoveredForm_stamp : (recoveredForm s us held next count e f).stamp = none := by
  rw [recoveredForm]
  exact if_neg Bool.false_ne_true

theorem recoveredForm_setEngine (x : Engine) (g : FaultLog) :
    ({ recoveredForm s us held next count e f with engine := x, faultLog := g } : State) = recoveredForm s us held next count x g := by
  rw [recoveredForm, recoveredForm]

theorem recoveredForm_count (found : BitVec 256) : (recoveredForm s us held next count e f).countInterruption found =
    State.hand (recoveredForm s us held next (bump 65535 s.store.interruptions) e f)
      (.restartUpdate (bump 65535 s.store.interruptions) found) := by
  rw [recoveredForm, recoveredForm, State.countInterruption]

end

theorem Hands.journal {s t : State} {us : List WriteUnit} (h : Hands s t us) : t.journal =
    ⟨s.journal.header, s.journal.marks, t.journal.nextNumber, s.journal.reservations,
      s.journal.pendingRecovery + us.countP isAppend⟩ := by
  obtain ⟨hheader, hmarks, hreservations⟩ := h.keeps.journal
  rw [← hheader, ← hmarks, ← hreservations, ← h.pending]

theorem Hands.restart {s t : State} {us : List WriteUnit} (h : Hands s t us) : t.restart = { s.restart with
    held := t.restart.held
    tickets := s.restart.tickets + us.countP isAppend
    testRuns := s.restart.testRuns + us.countP isTestRecord } := by
  obtain ⟨hphase, hcause, hcount, htime, hvalid⟩ := h.keeps.restart
  dsimp only
  rw [← hphase, ← hcause, ← hcount, ← htime, ← hvalid, ← h.tickets, ← h.testRuns]

/-- Recovery leaves a part whose save has been loaded as it is, but for what it hands over and counts. -/
theorem LoadsStore.recovered {s t u : State} {us : List WriteUnit} (h : LoadsStore s t) (hands : Hands t u us)
    (hmarks : t.journal.marks = checkedMarks s.store s.store.marks) :
    u = recoveredForm s us u.restart.held u.journal.nextNumber s.restart.interruptions u.engine u.faultLog := by
  have hkeeps := hands.keeps.form
  have hjournal := hands.journal
  have hrestart := hands.restart
  have hlog := hands.keeps.faultLog
  have hform := h.form
  dsimp only at hform
  rw [hmarks] at hform hjournal
  rw [recoveredForm]
  generalize checkedMarks s.store s.store.marks = m at hform hjournal ⊢
  generalize t.engine = e, t.faultLog = f, t.journal.nextNumber = n at hform hjournal hlog
  generalize calLoaded s.beginStartUp = c at hform ⊢
  rw [hform] at hkeeps hjournal hrestart
  rw [hjournal, hrestart] at hkeeps
  simpa [hlog] using hkeeps

/-- The entries of the two lines, line A before line B (R181). -/
theorem interruptedEntries_logs (w : Work) (hstamp : w.st.stamp = none) :
    Logs w ((w.interruptedEntry .a).interruptedEntry .b) (interruptedEntries w.st.restart.cause w.st.restart.held) := by
  have hfirst := interruptedEntry_logs .a w hstamp
  have hrestart : (w.interruptedEntry .a).st.restart = w.st.restart := by
    obtain ⟨f, x, m, hv⟩ := hfirst.rest
    rw [hv]
  have hsecond := interruptedEntry_logs .b (w.interruptedEntry .a) (hfirst.stamp.trans hstamp)
  rw [State.heldOf, hrestart] at hsecond
  rw [interruptedEntries_eq]
  exact hfirst.trans hsecond

/-- Start-up once every step is done, with the units, the snapshots and the next number that recovery leaves. -/
structure StartedUp (s : State) (us : List WriteUnit) (held : PerLine Snapshot) (next : Nat) (w : Work) : Prop where
  notes : w.notes = (startUpEntries s.store held).flatMap faultNotices
  log : ∃ n, StartLog (loadedRing s.store) (startUpEntries s.store held) n w.st
  units : recoveryUnits w.st = us ++ [.restartUpdate (bump 65535 s.store.interruptions) (checkedMarks s.store 0)]
  form : w.st = recoveredForm s us held next (bump 65535 s.store.interruptions) w.st.engine w.st.faultLog

/-- The entries of interrupted lines change the log and the engine alone. -/
theorem interruptedEntries_form (w : Work) (hstamp : w.st.stamp = none) :
    ∃ f x, ((w.interruptedEntry .a).interruptedEntry .b).st = { w.st with faultLog := f, engine := x } := by
  obtain ⟨f, x, m, hw⟩ := (interruptedEntries_logs w hstamp).rest
  have hjournal : ((w.interruptedEntry .a).interruptedEntry .b).st.journal = w.st.journal := by
    rw [interruptedEntry_journal, interruptedEntry_journal]
  rw [hw] at hjournal
  have hmarks : { w.st.journal with marks := m } = w.st.journal := hjournal
  exact ⟨f, x, by rw [hw, hmarks]⟩

/-- The last step of start-up: the counter increased and the restart update handed over (R175 step 5). -/
theorem countInterruption_started {s t : State} {us : List WriteUnit} {held : PerLine Snapshot} {next n : Nat}
    {es : List FaultEntry} (hform : t = recoveredForm s us held next s.restart.interruptions t.engine t.faultLog)
    (hlog : StartLog (loadedRing s.store) es (n + 1) t) (hunits : recoveryUnits t = us) (found : BitVec 256) :
    let u := t.countInterruption found
    StartLog (loadedRing s.store) es n u ∧
    recoveryUnits u = us ++ [.restartUpdate (bump 65535 s.store.interruptions) found] ∧
    u = recoveredForm s us held next (bump 65535 s.store.interruptions) u.engine u.faultLog := by
  intro u
  obtain ⟨hcal, hkind⟩ := update_kind (bump 65535 s.store.interruptions) found
  have hu : u = State.hand (recoveredForm s us held next (bump 65535 s.store.interruptions) t.engine t.faultLog)
      (.restartUpdate (bump 65535 s.store.interruptions) found) :=
    (congrArg (State.countInterruption · found) hform).trans (recoveredForm_count _ _ _ _ _ _ _ _)
  have hbefore : StartLog (loadedRing s.store) es (n + 1)
      (recoveredForm s us held next (bump 65535 s.store.interruptions) t.engine t.faultLog) :=
    hlog.congr (recoveredForm_log _ _ _ _ _ _ _) (recoveredForm_engine _ _ _ _ _ _ _)
  have hengine : recoveryUnits (recoveredForm s us held next (bump 65535 s.store.interruptions) t.engine t.faultLog) = us := by
    rw [recoveryUnits_eq, recoveredForm_engine, ← recoveryUnits_eq, hunits]
  obtain ⟨hlog', hunits'⟩ := hbefore.hand hcal hkind
  rw [← hu] at hlog' hunits'
  refine ⟨hlog', by rw [hunits', hengine], ?_⟩
  have hlast := hand_engine_only (recoveredForm s us held next (bump 65535 s.store.interruptions) t.engine t.faultLog) hcal hkind
  rw [← hu] at hlast
  have hsame : u.faultLog = t.faultLog := by rw [hlast, recoveredForm_log]
  rw [hsame]
  exact hlast.trans (recoveredForm_setEngine _ _ _ _ _ _ _ _ _)

/-- Start-up once recovery has handed over its units (R175 step 5, R181). -/
theorem lastSteps_started {s : State} {us : List WriteUnit} {held : PerLine Snapshot} {next n : Nat} {w : Work}
    (hform : w.st = recoveredForm s us held next s.restart.interruptions w.st.engine w.st.faultLog)
    (hnotes : w.notes = (loadEntries none s.store ++ damagedEntries s.store).flatMap faultNotices)
    (hlog : StartLog (loadedRing s.store) (loadEntries none s.store ++ damagedEntries s.store) (n + 1) w.st)
    (hunits : recoveryUnits w.st = us) :
    StartedUp s us held next (((w.interruptedEntry .a).interruptedEntry .b).mapSt
      (fun t => t.countInterruption (checkedMarks s.store 0))) := by
  have hstamp : w.st.stamp = none := by rw [hform]; exact recoveredForm_stamp _ _ _ _ _ _ _
  have hentries := interruptedEntries_logs w hstamp
  obtain ⟨f, x, hw⟩ := interruptedEntries_form w hstamp
  have hrestart : w.st.restart.cause = s.store.saveCause ∧ w.st.restart.held = held := by
    rw [hform, recoveredForm]
    exact ⟨rfl, rfl⟩
  rw [hrestart.1, hrestart.2] at hentries
  generalize (w.interruptedEntry .a).interruptedEntry .b = v at hentries hw ⊢
  obtain ⟨hlog', hunits'⟩ := hentries.log hlog
  have hform' : v.st = recoveredForm s us held next s.restart.interruptions v.st.engine v.st.faultLog := by
    rw [hform, recoveredForm_setEngine] at hw
    rw [hw, recoveredForm_engine, recoveredForm_log]
  obtain ⟨hlast, hunitsLast, hformLast⟩ := countInterruption_started hform' hlog' (hunits'.trans hunits) (checkedMarks s.store 0)
  refine ⟨?_, ⟨n, hlast⟩, hunitsLast, hformLast⟩
  rw [mapSt_notes, hentries.notes, hnotes, ← List.flatMap_append, startUpEntries]

/-- Start-up as a whole, and the part that recovery finds with its next number raised (R175 steps 1 to 5). -/
theorem startUp_started (s : State) : ∃ t r us, LoadsStore s t ∧ r = t.raiseNext ∧ RecordedOrder r us ∧
    StartedUp s (us ++ laterUnits r) ⟨(testOf r .a).left, (testOf r .b).left⟩
      (nextAfter (recordedOf r .b).left (saleNumber r .b)) (Work.startUp ⟨s, []⟩) := by
  obtain ⟨hloads, hmarks, hnotes, hlog, hunits⟩ := loadedSave_loads s
  have hfound := foundMarks_loads hloads
  obtain ⟨hchecks, hloads', hmarks'⟩ := checkJournal_loads hloads hmarks
  have hwork : Work.startUp ⟨s, []⟩ = ((((loadedSave ⟨s, []⟩).checkJournal.mapSt State.recover).interruptedEntry .a).interruptedEntry
      .b).mapSt (fun t => t.countInterruption (checkedMarks s.store 0)) := by
    rw [← hfound]
    rfl
  have hnotes' := hchecks.notes
  obtain ⟨hlog', hunits'⟩ := hchecks.log hlog
  rw [hnotes, ← List.flatMap_append] at hnotes'
  rw [hunits] at hunits'
  rw [hwork]
  generalize (loadedSave ⟨s, []⟩).checkJournal = v at hloads' hmarks' hnotes' hlog' hunits' ⊢
  refine ⟨v.st, v.st.raiseNext, ?_⟩
  obtain ⟨us, horder, hands, hheld, hnext⟩ := recover_hands v.st
  rw [List.append_assoc] at hands
  change Hands v.st v.st.recover (us ++ laterUnits v.st.raiseNext) at hands
  have hform := hloads'.recovered hands hmarks'
  rw [hheld, hnext] at hform
  have htwo := recovery_le_two horder
  have hnone := faultLog_notMem horder
  refine ⟨us, hloads', rfl, horder, ?_⟩
  obtain ⟨n, hn⟩ : ∃ n, (us ++ laterUnits v.st.raiseNext).length + (n + 1) = 4 :=
    ⟨3 - (us ++ laterUnits v.st.raiseNext).length, by omega⟩
  rw [← hn] at hlog'
  obtain ⟨hlog1, hunits1⟩ := StartLog.joined hlog' hands.keeps.faultLog hnone hands.units
  rw [hunits', List.nil_append] at hunits1
  exact lastSteps_started (w := v.mapSt State.recover) hform hnotes' hlog1 hunits1

end Sys2Proof.Safety
end

section
/-! PROOF. START_UP_SEQUENCE loads the store and the save (R175). -/

namespace Sys2Proof.Safety

open Sys2Proof.Machine

/-! ## The marks of the journal check (R145) -/

theorem setMark_getLsbD (marks : BitVec 256) (p k : Fin 256) :
    (setMark marks p).getLsbD k = (marks.getLsbD k || p == k) := by
  have hk := k.isLt
  rw [setMark, BitVec.getLsbD_or, BitVec.getLsbD_ofNat, Nat.testBit_two_pow, decide_eq_true hk, Bool.true_and]
  rw [show (p == k) = decide (p.val = k.val) from decide_eq_decide.mpr Fin.ext_iff]

theorem checkedMark_getLsbD (st : Store) (h : JournalHeader) (marks : BitVec 256) (i : Nat) (k : Fin 256) :
    (checkedMark st h marks i).getLsbD k =
      (marks.getLsbD k || (h.place i == k && !ticketGood (st.places[k].getD []))) := by
  unfold checkedMark
  by_cases hk : h.place i = k
  · subst hk
    by_cases hgood : ticketGood (st.places[h.place i].getD []) = true
    · rw [if_pos hgood, hgood, Bool.not_true, Bool.and_false, Bool.or_false]
    · rw [if_neg hgood, setMark_getLsbD, Bool.eq_false_iff.mpr hgood, Bool.not_false, Bool.and_true]
  · have hne : (h.place i == k) = false := beq_eq_false_iff_ne.mpr hk
    split
    · rw [hne, Bool.false_and, Bool.or_false]
    · rw [setMark_getLsbD, hne, Bool.false_and]

theorem checkedMarks_getLsbD (st : Store) (marks : BitVec 256) (k : Fin 256) :
    (checkedMarks st marks).getLsbD k = (marks.getLsbD k || (List.range st.header.count).any (fun i =>
      st.header.place i == k && !ticketGood (st.places[k].getD []))) := by
  have hfold : ∀ (is : List Nat) (m : BitVec 256), (is.foldl (checkedMark st st.header) m).getLsbD k =
      (m.getLsbD k || is.any (fun i => st.header.place i == k && !ticketGood (st.places[k].getD []))) := by
    intro is
    induction is with
    | nil => intro m; exact (Bool.or_false _).symm
    | cons i is ih => intro m; rw [List.foldl_cons, ih, checkedMark_getLsbD, List.any_cons, Bool.or_assoc]
  exact hfold _ _

/-! ## The command -/

theorem canStart_iff (s : State) :
    s.canStart = true ↔ s.restart.phase = .stopped ∧ s.inputs.powerFail = false ∧ s.inputs.reset = false := by
  simp [State.canStart, and_assoc]

theorem exec_startUp_untaken {s : State} (h : ¬ s.canStart = true) : exec .startUpSequence s = .next s.drive :=
  event_nothing (if_neg h)

theorem next_setLinks {t u : State} (h : t = u) (links : PerLink LinkFront) :
    (.next (State.drive { t with links := links }) : Host.Outcome State Fault Refusal) = .next (State.drive { u with links := links }) := by
  rw [h]

/-- START_UP_SEQUENCE once it can come: the part that start-up leaves, its notices sent and its outputs driven. -/
theorem exec_startUp {s : State} {us : List WriteUnit} {held : PerLine Snapshot} {next : Nat} (h : s.canStart = true)
    (hw : StartedUp s us held next (Work.startUp ⟨s, []⟩)) :
    exec .startUpSequence s = .next (State.drive {
      recoveredForm s us held next (bump 65535 s.store.interruptions) (Work.startUp ⟨s, []⟩).st.engine
        (Work.startUp ⟨s, []⟩).st.faultLog with
      links := noticed { s with restart := { s.restart with phase := .starting } }
        ((startUpEntries s.store held).flatMap faultNotices) }) := by
  have hevent : exec .startUpSequence s =
      .next ((Work.startUp ⟨s, []⟩).st.sendNotices (Work.startUp ⟨s, []⟩).notes).drive := by
    refine (event_next _ s).trans ?_
    rw [if_pos (by exact h)]
  rw [hevent, hw.notes, sendNotices_eta]
  have hlinks : (Work.startUp ⟨s, []⟩).st.links = s.links := by rw [hw.form, recoveredForm]
  have hphase : (Work.startUp ⟨s, []⟩).st.restart.phase = .starting := by rw [hw.form, recoveredForm]
  rw [sendNotices_links_congr (t := { s with restart := { s.restart with phase := .starting } }) hlinks hphase, ← noticed]
  exact next_setLinks hw.form _

/-- The line that start-up restores, as its outputs are driven. -/
theorem restored_driven (ln : Line) (x : Snapshot) (held : Bool) : (ln.restoreTotals x).driven held = { ln with
    totalizer := x.totalizer
    unticketed := x.unticketed
    trickleOut := ((ln.restoreTotals x).driven held).trickleOut
    mainOut := ((ln.restoreTotals x).driven held).mainOut } := rfl

/-- The shadows and the reference checks of a load (R162, R163). -/
theorem calLoaded_records (s : State) (r : RecordId) :
    let wrong := bitDistance (heldBytes (s.store.records.get r).1 (s.store.records.get r).2)
      (heldBytes (s.store.sealed.get r).1 (s.store.sealed.get r).2)
    let c := calLoaded s.beginStartUp
    (wrong ≤ 1 → (s.store.sealed.get r).1 = true → c.shadows.get r = s.store.sealed.get r) ∧
      (2 ≤ wrong ∨ (s.store.sealed.get r).1 = false → (c.shadows.get r).1 = false) ∧
      c.refs.get r = recordCheck (c.shadows.get r).1 (c.shadows.get r).2 := by
  obtain ⟨hshadow, hcheck⟩ := calLoaded_get s.beginStartUp r
  have hstore : s.beginStartUp.store = s.store := rfl
  rw [hstore, loaded_eq] at hshadow
  rw [hstore, loaded_eq] at hcheck
  intro wrong c
  refine ⟨fun h hvalid => hshadow.trans (if_pos ⟨h, hvalid⟩), fun h => ?_, ?_⟩
  · have hbad : ¬ (s.store.recordDamage r ≤ 1 ∧ (s.store.sealed.get r).1 = true) := fun ⟨hone, hvalid⟩ =>
      h.elim (fun htwo => absurd hone (Nat.not_le.mpr htwo)) (fun hinvalid => Bool.false_ne_true (hinvalid.symm.trans hvalid))
    rw [hshadow, if_neg hbad]
  · rw [hcheck, hshadow]

/-- The log of a start-up, entry by entry (R200, R202). -/
theorem logShape_entries {st : Store} {es : List FaultEntry} {f : FaultLog} (h : LogShape (loadedRing st) es f) :
    let loaded := st.ring.map (fun e => (e, true))
    let ring := f.ring.map (fun x => (x.entry, x.stored))
    (es = [] → ring = loaded ∧ { f with ring := [] } = ⟨[], [], 0, none, false⟩) ∧
      ∀ e more, es = e :: more →
        let joined := loaded ++ [(e, false)]
        ring = (if joined.length ≤ 32 then joined else joined.drop 1) ∧ f.overflow = more.take 4 ∧
        f.lost = min 255 (more.length - 4) ∧ f.outstanding ≠ none ∧ f.wanted = decide (more ≠ []) := by
  intro loaded ring
  have hloaded : (loadedRing st).map (fun x => (x.entry, x.stored)) = loaded := by
    rw [loadedRing, List.map_map]
    rfl
  refine ⟨fun hes => ?_, fun e more hes => ?_⟩
  · have hf := h.none hes
    rw [← hloaded]
    subst hf
    exact ⟨rfl, rfl⟩
  · obtain ⟨hring, hrest⟩ := h.some e more hes
    refine ⟨?_, hrest⟩
    have hlength : (loadedRing st ++ [unstored e]).length = (loaded ++ [(e, false)]).length := by
      simp [loadedRing, loaded]
    rw [show ring = _ from hring, joinRing_eq, hlength, apply_ite (List.map _), List.map_drop, List.map_append, hloaded]
    rfl

/-- The engine holds the units of recovery and the log's write alone. -/
theorem inEngine_of_recoveryUnits {s : State} {u : WriteUnit} (hu : u ≠ .faultLog) : inEngine s u ↔ u ∈ recoveryUnits s := by
  rw [inEngine_iff, recoveryUnits_eq, List.mem_filter]
  exact (and_iff_left (decide_eq_true hu)).symm

/-- The part that START_UP_SEQUENCE leaves, its notices sent and its outputs driven. -/
structure Started (s : State) (us : List WriteUnit) (held : PerLine Snapshot) (next : Nat) (t : State) : Prop where
  lines : ∀ l, t.line l = { s.line l with
    totalizer := (s.store.snapshots.get l).totalizer
    unticketed := (s.store.snapshots.get l).unticketed
    trickleOut := (t.line l).trickleOut
    mainOut := (t.line l).mainOut }
  cal : t.cal = calLoaded s.beginStartUp
  journal : t.journal = ⟨s.store.header, checkedMarks s.store s.store.marks, next, 0, us.countP isAppend⟩
  restart : t.restart = { s.restart with
    phase := .starting
    held := held
    cause := s.store.saveCause
    interruptions := min 65535 (s.store.interruptions + 1)
    tickets := us.countP isAppend
    testRuns := us.countP isTestRecord }
  units : recoveryUnits t = us ++ [.restartUpdate (min 65535 (s.store.interruptions + 1)) (checkedMarks s.store 0)]
  log : LogShape (loadedRing s.store) (startUpEntries s.store held) t.faultLog
  links : t.links = noticed { s with restart := { s.restart with phase := .starting } }
    ((startUpEntries s.store held).flatMap faultNotices)
  rest : t.store = s.store ∧ t.orders = s.orders ∧ t.plans = s.plans ∧ t.inputs = s.inputs ∧ t.pending = s.pending ∧
    t.estopHold = s.estopHold ∧ t.restartHold = s.restartHold

/-- The part that start-up leaves, once its outputs are driven. -/
theorem started_drive {s : State} {us : List WriteUnit} {held : PerLine Snapshot} {next : Nat} {e : Engine} {f : FaultLog}
    {links : PerLink LinkFront}
    (hunits : (unitsOf e).filter (· ≠ .faultLog) =
      us ++ [.restartUpdate (min 65535 (s.store.interruptions + 1)) (checkedMarks s.store 0)])
    (hlog : LogShape (loadedRing s.store) (startUpEntries s.store held) f)
    (hlinks : links = noticed { s with restart := { s.restart with phase := .starting } }
      ((startUpEntries s.store held).flatMap faultNotices)) :
    Started s us held next (State.drive {
      recoveredForm s us held next (min 65535 (s.store.interruptions + 1)) e f with links := links }) := by
  rw [recoveredForm]
  refine ⟨fun l => ?_, rfl, rfl, rfl, ?_, hlog, hlinks, rfl, rfl, rfl, rfl, rfl, rfl, rfl⟩
  · cases l <;> exact restored_driven _ _ _
  · exact hunits

/-- START_UP_SEQUENCE once it can come, with what recovery finds, hands over and leaves (R175). -/
theorem exec_startUpSequence {s : State} (h : s.canStart = true) : ∃ t v r us, exec .startUpSequence s = .next t ∧
    LoadsStore s v ∧ r = v.raiseNext ∧ RecordedOrder r us ∧
    Started s (us ++ laterUnits r) ⟨(testOf r .a).left, (testOf r .b).left⟩ (nextAfter (recordedOf r .b).left (saleNumber r .b)) t := by
  obtain ⟨v, r, us, hloads, hr, horder, hw⟩ := startUp_started s
  have hexec := exec_startUp h hw
  have hunits := hw.units
  obtain ⟨n, hlog⟩ := hw.log
  have hshape := hlog.shape
  rw [recoveryUnits_eq, bump_eq] at hunits
  rw [bump_eq] at hexec
  exact ⟨_, v, r, us, hexec, hloads, hr, horder, started_drive hunits hshape rfl⟩

/-- Settles O48: the parts of start-up, put together by `exec_startUpSequence`, and the load, the marks and the log read off. -/
theorem startUpLoadsTheSave : Obligations.StartUpLoadsTheSave := by
  intro s ready wrong failing
  refine ⟨fun h => exec_startUp_untaken (mt (canStart_iff s).mp h), fun h => ?_⟩
  obtain ⟨t, _, r, us, hexec, -, -, -, ht⟩ := exec_startUpSequence ((canStart_iff s).mpr h)
  generalize us ++ laterUnits r = units at ht
  generalize nextAfter (recordedOf r .b).left (saleNumber r .b) = next at ht
  generalize (⟨(testOf r .a).left, (testOf r .b).left⟩ : PerLine Snapshot) = held at ht
  obtain ⟨hlines, hcal, hjournal, hrestart, hunits, hlog, hlinks, hstore, horders, hplans, hinputs, hpending, hestop, hhold⟩ := ht
  obtain ⟨hsettings, hwrite, hsweep, -⟩ := calLoaded_rest s.beginStartUp
  have hentries := logShape_entries hlog
  refine ⟨t, hexec, hlines, fun r => ?_, ?_, ?_, fun k => ?_, ?_, ?_, ?_, ⟨checkedMarks s.store 0, fun k => ?_, ?_⟩, ?_, ?_, ?_,
    hstore, horders, hplans, hinputs, hpending, hestop, hhold, ?_, ?_, ?_⟩
  · rw [hcal]
    exact calLoaded_records s r
  · rw [hjournal]
  · rw [hjournal]
  · rw [hjournal]
    exact checkedMarks_getLsbD _ _ k
  · rw [hrestart]
  · rw [hrestart]
  · rw [hrestart]
  · have hzero : (0 : BitVec 256).getLsbD k = false := BitVec.getLsbD_zero
    rw [checkedMarks_getLsbD, hzero, Bool.false_or]
    rfl
  · rw [inEngine_of_recoveryUnits (update_kind _ _).2, hunits]
    exact List.mem_append_right _ (List.mem_singleton.mpr rfl)
  · have hheld : t.restart.held = held := by rw [hrestart]
    rw [hheld]
    exact ⟨hlinks, hentries⟩
  · rw [hrestart]
  · rw [hrestart]
  · rw [hcal]
    exact hsettings
  · rw [hcal]
    exact hwrite
  · rw [hcal]
    exact hsweep

end Sys2Proof.Safety
end

section
/-! PROOF. Recovery makes the tickets and test records that the held snapshots are owed (R177 to R180). -/

namespace Sys2Proof.Safety

open Sys2Proof.Machine

/-! ## The delivery as recovery finishes it -/

theorem recoverySample_eq (d : Delivery) : d.recoverySample = recoverySampled d := by
  unfold Delivery.recoverySample recoverySampled
  cases hlast : d.corr.lastValid with
  | some t => simp [Delivery.weight, Delivery.recompute, Delivery.average, Delivery.vcfAt, grossWrap, hlast]
  | none =>
    by_cases hzero : (d.counts.gs + d.counts.gp) % 100000000000000000 = 0 <;>
      simp [Delivery.weight, Delivery.recompute, Delivery.average, Delivery.vcfAt, grossWrap, hlast, hzero]

theorem weighed_eq (x : Snapshot) : x.weighed = recoveredRecord x := by
  rw [Snapshot.weighed, recoveredRecord, recoverySample_eq]

theorem soldDelivery_eq (x : Snapshot) (l : LineId) (c : RestartCause) (n : Nat) :
    x.soldDelivery l c n = Delivery.finishSale l (recoveredSale x c n) := by
  rw [Snapshot.soldDelivery, weighed_eq]
  cases c <;> rfl

theorem finishSale_ticket (l : LineId) (d : Delivery) : ∃ ticket, (Delivery.finishSale l d).ticket = some ticket := ⟨_, rfl⟩

theorem finishTest_run (l : LineId) (i : Bool) (d : Delivery) : ∃ run, (Delivery.finishTest l i d).testRun = some run := ⟨_, rfl⟩

/-! ## The part that recovery finds -/

theorem LoadsStore.heldOf {s v : State} (h : LoadsStore s v) (l : LineId) : v.raiseNext.heldOf l = s.store.snapshots.get l := by
  have hheld : v.restart.held = s.store.snapshots := by rw [h.form]
  rw [State.heldOf, State.raiseNext, hheld]

theorem LoadsStore.cause {s v : State} (h : LoadsStore s v) : v.raiseNext.restart.cause = s.store.saveCause := by
  have hcause : v.restart.cause = s.store.saveCause := by rw [h.form]
  rw [State.raiseNext, hcause]

/-- The number of a SALE in RECORDING that the journal does not hold, once the save is loaded (R145, R179). -/
theorem LoadsStore.unheld_iff {s v : State} (h : LoadsStore s v) (l : LineId) (n : Nat) :
    v.raiseNext.unheldNumber l = some n ↔ unheld s.store (s.store.snapshots.get l) n := by
  have hheader : v.raiseNext.journal.header = s.store.header := by
    rw [State.raiseNext, h.form]
  unfold State.unheldNumber unheld Journal.holdsNumber JournalHeader.position?
  rw [h.heldOf, hheader]
  dsimp only
  by_cases hsale : (s.store.snapshots.get l).state = .recording ∧ (s.store.snapshots.get l).delivery.mode = some .sale
  · rw [if_pos hsale]
    cases (s.store.snapshots.get l).delivery.ticketNumber with
    | none => simp
    | some m =>
      rw [Option.bind_some]
      by_cases hheld : s.store.header.oldestNumber ≤ m ∧ m < s.store.header.oldestNumber + s.store.header.count
      · rw [if_pos hheld, Option.isSome_some, if_pos rfl]
        refine ⟨nofun, ?_⟩
        rintro ⟨-, -, hm, hnot⟩
        cases hm
        exact absurd hheld hnot
      · rw [if_neg hheld, Option.isSome_none, if_neg Bool.false_ne_true]
        refine ⟨?_, fun ⟨_, _, hm, _⟩ => hm⟩
        rintro ⟨⟩
        exact ⟨hsale.1, hsale.2, rfl, hheld⟩
  · rw [if_neg hsale]
    exact ⟨nofun, fun ⟨hst, hmode, _⟩ => absurd ⟨hst, hmode⟩ hsale⟩

/-- One above the number that the journal is owed, or 0 (R145). -/
def aboveUnheld (v : State) (l : LineId) : Nat := ((v.unheldNumber l).map (· + 1)).getD 0

/-- The next number, once it is above every number that the journal is owed (R145). -/
theorem LoadsStore.next {s v : State} (h : LoadsStore s v) {base : Nat} (hbase : NextAfterLoad s.store base) :
    v.raiseNext.journal.nextNumber = base := by
  have hraised : v.raiseNext.journal.nextNumber = max s.store.nextNumber (max (aboveUnheld v .a) (aboveUnheld v .b)) := by
    have hstored : v.journal.nextNumber = s.store.nextNumber := by rw [h.form]
    rw [← hstored]
    rfl
  have habove : ∀ l n, unheld s.store (s.store.snapshots.get l) n → n + 1 ≤ aboveUnheld v l := fun l n hn => by
    have hnumber : v.unheldNumber l = some n := (h.unheld_iff l n).mpr hn
    rw [aboveUnheld, hnumber]
    exact Nat.le_refl _
  have hbelow : ∀ l, aboveUnheld v l ≤ base := fun l => by
    unfold aboveUnheld
    cases hn : v.unheldNumber l with
    | none => exact Nat.zero_le _
    | some n => exact hbase.above l n ((h.unheld_iff l n).mp hn)
  rw [hraised]
  refine le_antisymm (max_le hbase.stored (max_le (hbelow _) (hbelow _))) (hbase.least _ (le_max_left _ _) fun l m hm => ?_)
  have hl := habove l m hm
  cases l <;> omega

/-! ## What recovery makes of each snapshot -/

section
variable {s : State} {l : LineId}

/-- The next number after the SALES of a line, as its snapshot stood (R178). -/
theorem nextAfter_recorded (n : Nat) :
    nextAfter (recordedOf s l).left n = n + if openWith (s.heldOf l) .sale then 1 else 0 := by
  unfold nextAfter
  cases h : s.unheldNumber l with
  | none =>
    rw [recordedOf_none h]
    by_cases hopen : openWith (s.heldOf l) .sale
    · rw [if_pos ((isOpenWith_iff _ _).mpr hopen), if_pos hopen]
    · rw [if_neg (mt (isOpenWith_iff _ _).mp hopen), if_neg hopen]
      rfl
  | some m =>
    have hopen : ¬ openWith (s.heldOf l) .sale := fun hopen => Option.some_ne_none _ (h.symm.trans (unheldNumber_open hopen))
    rw [if_neg hopen, Nat.add_zero]
    exact if_neg (fun hleft => by
      rw [(owed_unheld h).1] at hleft
      exact Bool.false_ne_true ((isOpenWith_recording
        (x := { s.heldOf l with delivery := (s.heldOf l).delivery.interruptSale }) (unheldNumber_recording h).1).symm.trans hleft))

/-- An open TEST with G > 0 is owed its record (R180). -/
theorem owed_openTest (h : openWith (s.heldOf l) .test) :
    ∃ run, (Delivery.finishTest l true (s.heldOf l).weighed).testRun = some run ∧ owedUnits s l = [.testRecord l true run] ∧
      (testOf s l).left = { s.heldOf l with
        state := .recording, delivery := Delivery.finishTest l true (s.heldOf l).weighed, written := false } := by
  have hsale : ¬ openWith (s.heldOf l) .sale := fun hopen => by
    have hmode := hopen.2.1.symm.trans h.2.1
    cases hmode
  obtain ⟨hrecorded, hnothing, htest⟩ := owed_test (unheldNumber_open h) hsale
  obtain ⟨run, hrun⟩ := finishTest_run l true (s.heldOf l).weighed
  have hduty : testDuty l (s.heldOf l) = ⟨[.testRecord l true run], { s.heldOf l with
      state := .recording, delivery := Delivery.finishTest l true (s.heldOf l).weighed, written := false }⟩ := by
    unfold testDuty
    rw [if_pos ((isOpenWith_iff _ _).mpr h), hrun]
  refine ⟨run, hrun, ?_, ?_⟩
  · rw [owedUnits, hrecorded, hnothing, htest, hduty]
    rfl
  · rw [htest, hduty]

/-- A snapshot that is no SALE is no SALE in RECORDING either. -/
theorem unheldNumber_of_mode (h : (s.heldOf l).delivery.mode ≠ some .sale) : s.unheldNumber l = none := by
  cases hn : s.unheldNumber l with
  | none => rfl
  | some n => exact absurd (unheldNumber_recording hn).2 h

/-- A TEST in RECORDING whose record has not been written is owed it (R180). -/
theorem owed_recordingTest {run : TestRun} (hst : (s.heldOf l).state = .recording) (hmode : (s.heldOf l).delivery.mode = some .test)
    (hwritten : (s.heldOf l).written = false) (hrun : (s.heldOf l).delivery.testRun = some run) :
    owedUnits s l = [.testRecord l true { run with interrupted := true }] ∧
      (testOf s l).left = { s.heldOf l with
        delivery := { (s.heldOf l).delivery with testRun := some { run with interrupted := true } } } := by
  have hne : (s.heldOf l).delivery.mode ≠ some .sale := by rw [hmode]; simp
  obtain ⟨hrecorded, hnothing, htest⟩ := owed_test (unheldNumber_of_mode hne) (fun h => hne h.2.1)
  have hduty : testDuty l (s.heldOf l) = ⟨[.testRecord l true { run with interrupted := true }], { s.heldOf l with
      delivery := { (s.heldOf l).delivery with testRun := some { run with interrupted := true } } }⟩ := by
    unfold testDuty
    rw [if_neg (by rw [isOpenWith_recording hst]; exact Bool.false_ne_true), if_pos ⟨hst, hmode, hwritten⟩, hrun]
  refine ⟨?_, ?_⟩
  · rw [owedUnits, hrecorded, hnothing, htest, hduty]
    rfl
  · rw [htest, hduty]

/-- Any other snapshot is owed nothing and stays held as it was (R177; log 26). -/
theorem owed_nothing (hnone : s.unheldNumber l = none) (hopen : ∀ m, ¬ openWith (s.heldOf l) m)
    (htest : ¬ ((s.heldOf l).state = .recording ∧ (s.heldOf l).delivery.mode = some .test ∧ (s.heldOf l).written = false)) :
    owedUnits s l = [] ∧ (testOf s l).left = s.heldOf l := by
  obtain ⟨hrecorded, hnothing, hlast⟩ := owed_test hnone (hopen .sale)
  have hduty : testDuty l (s.heldOf l) = ⟨[], s.heldOf l⟩ := by
    unfold testDuty
    rw [if_neg (mt (isOpenWith_iff _ _).mp (hopen .test)), if_neg htest]
  refine ⟨?_, ?_⟩
  · rw [owedUnits, hrecorded, hnothing, hlast, hduty]
    rfl
  · rw [hlast, hduty]

end

/-! ## The order of hand-over (R177) -/

theorem pairwise_of_le_one {us : List WriteUnit} (h : us.length ≤ 1) : us.Pairwise handedBefore := by
  rcases us with _ | ⟨u, _ | ⟨v, us⟩⟩
  · exact List.Pairwise.nil
  · exact List.pairwise_singleton _ u
  · exact absurd (Nat.le_of_succ_le_succ h) (Nat.not_succ_le_zero _)

section
variable {r : State} {us : List WriteUnit}

/-- The appends of the SALES in RECORDING come in ascending number. -/
theorem RecordedOrder.pairwise (h : RecordedOrder r us) : us.Pairwise handedBefore := by
  have hone : ∀ l, (recordedOf r l).units.length ≤ 1 := fun l => by have := duty_le_one r l; omega
  have hbefore : ∀ l m, (∀ n k, r.unheldNumber l = some n → r.unheldNumber m = some k → n ≤ k) →
      ∀ u ∈ (recordedOf r l).units, ∀ v ∈ (recordedOf r m).units, handedBefore u v := fun l m hle u hu v hv => by
    obtain ⟨n, _, _, hn, rfl⟩ := mem_recordedOf hu
    obtain ⟨k, _, _, hk, rfl⟩ := mem_recordedOf hv
    exact hle n k hn hk
  rcases h with ⟨rfl, hle⟩ | ⟨rfl, na, nb, ha, hb, hlt⟩
  · exact List.pairwise_append.mpr ⟨pairwise_of_le_one (hone _), pairwise_of_le_one (hone _), hbefore _ _ hle⟩
  · refine List.pairwise_append.mpr ⟨pairwise_of_le_one (hone _), pairwise_of_le_one (hone _), hbefore _ _ fun n k hn hk => ?_⟩
    cases hb.symm.trans hn
    cases ha.symm.trans hk
    exact Nat.le_of_lt hlt

/-- The appends of the open SALES come in ascending number, and the test records after them, line A before line B. -/
theorem laterUnits_pairwise (r : State) : (laterUnits r).Pairwise handedBefore := by
  have hone : ∀ l, (saleOf r l).units.length ≤ 1 ∧ (testOf r l).units.length ≤ 1 := fun l => by
    have := duty_le_one r l
    omega
  have hnumber : saleNumber r .a ≤ saleNumber r .b := by
    rw [saleNumber, saleNumber, nextAfter_recorded]
    exact Nat.le_add_right _ _
  refine List.pairwise_append.mpr ⟨List.pairwise_append.mpr ⟨pairwise_of_le_one (hone _).1, pairwise_of_le_one (hone _).1, ?_⟩,
    List.pairwise_append.mpr ⟨pairwise_of_le_one (hone _).2, pairwise_of_le_one (hone _).2, ?_⟩, ?_⟩
  · intro u hu v hv
    obtain ⟨_, _, rfl⟩ := mem_saleOf hu
    obtain ⟨_, _, rfl⟩ := mem_saleOf hv
    exact hnumber
  · intro u hu v hv
    obtain ⟨_, rfl⟩ := mem_testOf hu
    obtain ⟨_, rfl⟩ := mem_testOf hv
    exact ⟨rfl, rfl⟩
  · intro u hu v hv
    have hsale : ∃ l next ticket, u = .journalAppend l true (saleNumber r l) next ticket :=
      (List.mem_append.mp hu).elim (fun h => ⟨_, mem_saleOf h⟩) (fun h => ⟨_, mem_saleOf h⟩)
    have htest : ∃ l run, v = .testRecord l true run :=
      (List.mem_append.mp hv).elim (fun h => ⟨_, mem_testOf h⟩) (fun h => ⟨_, mem_testOf h⟩)
    obtain ⟨_, _, _, rfl⟩ := hsale
    obtain ⟨_, _, rfl⟩ := htest
    trivial

/-- Every number owed is below the ones that the open SALES take. -/
theorem recorded_before_later (h : RecordedOrder r us) (hlt : ∀ l n, r.unheldNumber l = some n → n ≤ r.journal.nextNumber) :
    ∀ u ∈ us, ∀ v ∈ laterUnits r, handedBefore u v := by
  intro u hu v hv
  have hrecorded : ∃ l n next ticket, r.unheldNumber l = some n ∧ u = .journalAppend l true n next ticket :=
    ((h.mem u).mp hu).elim (fun h => ⟨_, mem_recordedOf h⟩) (fun h => ⟨_, mem_recordedOf h⟩)
  obtain ⟨l, n, _, _, hn, rfl⟩ := hrecorded
  have hnumber : ∀ m, r.journal.nextNumber ≤ saleNumber r m := fun m => by
    cases m with
    | a => exact Nat.le_refl _
    | b => rw [saleNumber, nextAfter_recorded]; exact Nat.le_add_right _ _
  rcases List.mem_append.mp hv with hv | hv
  · have hsale : ∃ m next ticket, v = .journalAppend m true (saleNumber r m) next ticket :=
      (List.mem_append.mp hv).elim (fun h => ⟨_, mem_saleOf h⟩) (fun h => ⟨_, mem_saleOf h⟩)
    obtain ⟨m, _, _, rfl⟩ := hsale
    exact (hlt l n hn).trans (hnumber m)
  · have htest : ∃ m run, v = .testRecord m true run :=
      (List.mem_append.mp hv).elim (fun h => ⟨_, mem_testOf h⟩) (fun h => ⟨_, mem_testOf h⟩)
    obtain ⟨_, _, rfl⟩ := htest
    trivial

/-- The units of recovery stand before the restart update, in the order of R177. -/
theorem recovery_pairwise (h : RecordedOrder r us) (hlt : ∀ l n, r.unheldNumber l = some n → n ≤ r.journal.nextNumber)
    (k : Nat) (m : BitVec 256) : (us ++ laterUnits r ++ [WriteUnit.restartUpdate k m]).Pairwise handedBefore := by
  refine List.pairwise_append.mpr ⟨List.pairwise_append.mpr ⟨h.pairwise, laterUnits_pairwise r, recorded_before_later h hlt⟩,
    List.pairwise_singleton _ _, fun u hu v hv => ?_⟩
  cases List.mem_singleton.mp hv
  have howed := (mem_recovery h u).mp hu
  have hform : ∃ l, u ∈ owedUnits r l := howed.elim (fun h => ⟨_, h⟩) (fun h => ⟨_, h⟩)
  obtain ⟨l, hl⟩ := hform
  rcases owedUnits_form r l u hl with ⟨_, _, _, rfl⟩ | ⟨_, rfl⟩ <;> trivial

end

/-! ## Recovery, snapshot by snapshot -/

/-- A unit of recovery of a line: a recovery append or a test record (R177). -/
def IsUnitOf (l : LineId) (u : WriteUnit) : Prop :=
  (∃ n next ticket, u = .journalAppend l true n next ticket) ∨ ∃ run, u = .testRecord l true run

/-- The part after start-up, seen from the part that recovery found with its next number raised. -/
structure RecoveredPart (s r : State) (base : Nat) (t : State) : Prop where
  found : ∀ l, r.heldOf l = s.store.snapshots.get l
  cause : r.restart.cause = s.store.saveCause
  unheld : ∀ l n, r.unheldNumber l = some n ↔ unheld s.store (s.store.snapshots.get l) n
  next : r.journal.nextNumber = base
  held : ∀ l, t.restart.held.get l = (testOf r l).left
  engine : ∀ l u, IsUnitOf l u → (inEngine t u ↔ u ∈ owedUnits r l)

/-- A unit of a line is owed to that line alone. -/
theorem mem_recovery_iff {r : State} {us : List WriteUnit} (h : RecordedOrder r us) {l : LineId} {u : WriteUnit} (hu : IsUnitOf l u) :
    u ∈ us ++ laterUnits r ↔ u ∈ owedUnits r l := by
  have hother : ∀ m, m ≠ l → u ∉ owedUnits r m := fun m hne hmem => by
    rcases owedUnits_form r m u hmem with ⟨_, _, _, rfl⟩ | ⟨_, rfl⟩ <;> rcases hu with ⟨_, _, _, hu⟩ | ⟨_, hu⟩ <;> cases hu <;>
      exact hne rfl
  rw [mem_recovery h]
  cases l with
  | a => exact or_iff_left (hother .b nofun)
  | b => exact or_iff_right (hother .a nofun)

theorem started_recovered {s v t : State} {us : List WriteUnit} {next base : Nat} (hloads : LoadsStore s v)
    (hbase : NextAfterLoad s.store base) (horder : RecordedOrder v.raiseNext us)
    (ht : Started s (us ++ laterUnits v.raiseNext) ⟨(testOf v.raiseNext .a).left, (testOf v.raiseNext .b).left⟩ next t) :
    RecoveredPart s v.raiseNext base t where
  found := hloads.heldOf
  cause := hloads.cause
  unheld := hloads.unheld_iff
  next := hloads.next hbase
  held l := by
    rw [ht.restart]
    cases l <;> rfl
  engine l u hu := by
    have hne : u ≠ .faultLog ∧ ∀ k m, u ≠ .restartUpdate k m := by
      rcases hu with ⟨_, _, _, rfl⟩ | ⟨_, rfl⟩ <;> exact ⟨nofun, fun _ _ => nofun⟩
    rw [inEngine_of_recoveryUnits hne.1, ht.units, List.mem_append, List.mem_singleton, ← mem_recovery_iff horder hu]
    exact or_iff_left (hne.2 _ _)

section
variable {s r t : State} {base : Nat} {l : LineId}

/-- The number of an open SALE (R178). -/
theorem RecoveredPart.saleNumber (h : RecoveredPart s r base t) (l : LineId) : Safety.saleNumber r l =
    if l = .b ∧ openWith (s.store.snapshots.get .a) .sale then base + 1 else base := by
  have hnext := h.next
  cases l with
  | a => exact hnext.trans (if_neg (fun h => LineId.noConfusion h.1)).symm
  | b =>
    rw [Safety.saleNumber, nextAfter_recorded, h.found, hnext]
    by_cases hopen : openWith (s.store.snapshots.get .a) .sale
    · rw [if_pos hopen, if_pos ⟨rfl, hopen⟩]
    · rw [if_neg hopen, if_neg (fun hb => hopen hb.2), Nat.add_zero]

theorem RecoveredPart.openSale (h : RecoveredPart s r base t) (hopen : openWith (s.store.snapshots.get l) .sale) :
    let x := s.store.snapshots.get l
    let n := if l = .b ∧ openWith (s.store.snapshots.get .a) .sale then base + 1 else base
    let d := Delivery.finishSale l (recoveredSale x s.store.saveCause n)
    t.restart.held.get l = ⟨.recording, d, x.totalizer, x.unticketed, false⟩ ∧
      ∃ ticket, d.ticket = some ticket ∧ inEngine t (.journalAppend l true n (n + 1) ticket) := by
  intro x n d
  obtain ⟨hrecorded, hsale, htest⟩ := owed_sale (s := r) (l := l) (by rw [h.found]; exact hopen)
  have hsold : (r.heldOf l).soldDelivery l r.restart.cause (Safety.saleNumber r l) = d := by
    rw [soldDelivery_eq, h.found, h.cause, h.saleNumber]
  obtain ⟨ticket, hticket⟩ := finishSale_ticket l (recoveredSale x s.store.saveCause n)
  rw [hsold, h.found, h.saleNumber] at hsale
  refine ⟨?_, ticket, hticket, (h.engine l _ (.inl ⟨_, _, _, rfl⟩)).mpr ?_⟩
  · rw [h.held, htest, hsale]
  · rw [owedUnits, hsale, htest, hrecorded]
    have hd : d.ticket = some ticket := hticket
    rw [hd]
    exact List.mem_singleton.mpr rfl

theorem RecoveredPart.recordedSale (h : RecoveredPart s r base t) {n : Nat} {ticket : List Byte}
    (hunheld : Safety.unheld s.store (s.store.snapshots.get l) n)
    (hticket : (s.store.snapshots.get l).delivery.ticket = some ticket) :
    let x := s.store.snapshots.get l
    t.restart.held.get l = { x with delivery := { x.delivery with
      ticket := some (interruptTicket ticket), flags := { x.delivery.flags with interrupted := true } } } ∧
    inEngine t (.journalAppend l true n base (interruptTicket ticket)) := by
  intro x
  obtain ⟨hrecorded, hsale, htest, -⟩ := owed_unheld ((h.unheld l n).mpr hunheld)
  have hinterrupt : x.delivery.interruptSale = { x.delivery with
      ticket := some (interruptTicket ticket), flags := { x.delivery.flags with interrupted := true } } := by
    rw [Delivery.interruptSale, hticket]
    rfl
  rw [h.found, h.next, hinterrupt] at hrecorded
  refine ⟨?_, (h.engine l _ (.inl ⟨_, _, _, rfl⟩)).mpr ?_⟩
  · rw [h.held, htest, hrecorded]
  · rw [owedUnits, hsale, htest, hrecorded]
    exact List.mem_singleton.mpr rfl

theorem RecoveredPart.openTest (h : RecoveredPart s r base t) (hopen : openWith (s.store.snapshots.get l) .test) :
    let x := s.store.snapshots.get l
    let d := Delivery.finishTest l true (recoveredRecord x)
    t.restart.held.get l = ⟨.recording, d, x.totalizer, x.unticketed, false⟩ ∧
      ∃ run, d.testRun = some run ∧ inEngine t (.testRecord l true run) := by
  intro x d
  obtain ⟨run, hrun, howed, hleft⟩ := owed_openTest (s := r) (l := l) (by rw [h.found]; exact hopen)
  rw [weighed_eq, h.found] at hrun hleft
  refine ⟨(h.held l).trans hleft, run, hrun, (h.engine l _ (.inr ⟨_, rfl⟩)).mpr ?_⟩
  rw [howed]
  exact List.mem_singleton.mpr rfl

theorem RecoveredPart.recordedTest (h : RecoveredPart s r base t) {run : TestRun}
    (hst : (s.store.snapshots.get l).state = .recording) (hmode : (s.store.snapshots.get l).delivery.mode = some .test)
    (hwritten : (s.store.snapshots.get l).written = false) (hrun : (s.store.snapshots.get l).delivery.testRun = some run) :
    let x := s.store.snapshots.get l
    t.restart.held.get l = { x with delivery := { x.delivery with testRun := some { run with interrupted := true } } } ∧
      inEngine t (.testRecord l true { run with interrupted := true }) := by
  intro x
  rw [← h.found] at hst hmode hwritten hrun
  obtain ⟨howed, hleft⟩ := owed_recordingTest hst hmode hwritten hrun
  rw [h.found] at hleft
  refine ⟨(h.held l).trans hleft, (h.engine l _ (.inr ⟨_, rfl⟩)).mpr ?_⟩
  rw [howed]
  exact List.mem_singleton.mpr rfl

theorem RecoveredPart.nothing (h : RecoveredPart s r base t) (hnone : ∀ n, ¬ Safety.unheld s.store (s.store.snapshots.get l) n)
    (hopen : ∀ m, ¬ openWith (s.store.snapshots.get l) m)
    (htest : ¬ ((s.store.snapshots.get l).state = .recording ∧ (s.store.snapshots.get l).delivery.mode = some .test ∧
      (s.store.snapshots.get l).written = false)) :
    t.restart.held.get l = s.store.snapshots.get l ∧ (∀ n next ticket, ¬ inEngine t (.journalAppend l true n next ticket)) ∧
      ∀ run, ¬ inEngine t (.testRecord l true run) := by
  have hnumber : r.unheldNumber l = none := Option.eq_none_iff_forall_ne_some.mpr fun n hn => hnone n ((h.unheld l n).mp hn)
  rw [← h.found] at hopen htest
  obtain ⟨howed, hleft⟩ := owed_nothing hnumber hopen htest
  rw [h.found] at hleft
  refine ⟨(h.held l).trans hleft, fun n next ticket hin => ?_, fun run hin => ?_⟩
  · have hmem := (h.engine l _ (.inl ⟨n, next, ticket, rfl⟩)).mp hin
    rw [howed] at hmem
    exact List.not_mem_nil hmem
  · have hmem := (h.engine l _ (.inr ⟨run, rfl⟩)).mp hin
    rw [howed] at hmem
    exact List.not_mem_nil hmem

end

/-- What the clause of the discarded snapshots says of one: recovery takes it for no SALE and no TEST of its own (R177). -/
theorem discarded_owed_nothing {st : Store} {x : Snapshot}
    (h : x.state = .idle ∨ x.state = .unverified ∨ x.delivery.mode = none ∨
      x.state ≠ .recording ∧ x.delivery.counts.g = 0 ∨
      x.state = .recording ∧ x.delivery.mode = some .sale ∧ (∀ n, ¬ unheld st x n) ∨
      x.state = .recording ∧ x.delivery.mode = some .test ∧ x.written = true) :
    (∀ n, ¬ unheld st x n) ∧ (∀ m, ¬ openWith x m) ∧
      ¬ (x.state = .recording ∧ x.delivery.mode = some .test ∧ x.written = false) := by
  unfold unheld openWith at *
  rcases h with h | h | h | ⟨h, hg⟩ | ⟨h, hm, hn⟩ | ⟨h, hm, hw⟩
  · simp [h, LineState.isOpen]
  · simp [h, LineState.isOpen]
  · simp [h]
  · simp [h, hg]
  · exact ⟨hn, by simp [h, LineState.isOpen], by simp [hm]⟩
  · simp [h, hm, hw, LineState.isOpen]

/-- Settles O49: what `exec_startUpSequence` leaves, with each snapshot's part of recovery read off by its state and mode. -/
theorem recoveryMakesTickets : Obligations.RecoveryMakesTickets := by
  intro s base hstopped hpower hreset hbase
  obtain ⟨t, v, r, us, hexec, hloads, rfl, horder, ht⟩ :=
    exec_startUpSequence ((canStart_iff s).mpr ⟨hstopped, hpower, hreset⟩)
  have h := started_recovered hloads hbase horder ht
  have hlt : ∀ l n, v.raiseNext.unheldNumber l = some n → n ≤ v.raiseNext.journal.nextNumber := fun l n hn => by
    rw [h.next]
    exact Nat.le_of_lt (hbase.above l n ((h.unheld l n).mp hn))
  have hcounts : ∀ p : WriteUnit → Bool, (∀ k m, p (.restartUpdate k m) = false) →
      (recoveryUnits t).countP p = (us ++ laterUnits v.raiseNext).countP p := fun p hp => by
    rw [ht.units, List.countP_append, List.countP_singleton, hp]
    rfl
  refine ⟨t, hexec, ?_, ?_, ?_, ?_, ?_, fun l => ⟨h.openSale, fun n ticket => h.recordedSale, h.openTest,
    fun run => h.recordedTest, fun hx => ?_⟩⟩
  · rw [ht.journal]
    dsimp only
    rw [nextAfter_recorded, saleNumber, nextAfter_recorded, h.next, h.found, h.found]
  · rw [ht.units]
    exact recovery_pairwise horder hlt _ _
  · rw [ht.restart, hcounts isAppend (fun _ _ => rfl)]
  · rw [ht.journal, hcounts isAppend (fun _ _ => rfl)]
  · rw [ht.restart, hcounts isTestRecord (fun _ _ => rfl)]
  · obtain ⟨hnone, hopen, htest⟩ := discarded_owed_nothing hx
    exact h.nothing hnone hopen htest

end Sys2Proof.Safety
end
